-- ==== Sys2Proof/Word.lean ====
section
/-! DEFINITION. The word types of the block: bytes on the wire, 16-bit raw values, 32-bit host registers
(spec/00_scope.md R6). -/

namespace Sys2Proof

/-- A byte: 8 bits, bit 0 the least significant (R6). -/
abbrev Byte := BitVec 8

/-- An unsigned 16-bit raw value, raw16 (R99). -/
abbrev Raw16 := BitVec 16

/-- A host register, or a binary32 pattern: 32 bits (R5, `REG_W`). -/
abbrev Word32 := BitVec 32

/-- The transport's 48-bit answer bus `tp_rdata` (R76). -/
abbrev RData := BitVec 48

end Sys2Proof
end

