-- ==== Sys2Proof/Syntax.lean ====
section
/-! DEFINITION. The instructions: one constructor for each row of spec/opcode_table.json (R92, R93, R95, R102). No row has
an operand field: the two modes of MEASURE are part of its row (R91). -/

namespace Sys2Proof

/-- Timing Mode, the enumeration Stretched, Polled (R91, glossary of spec/00_scope.md). -/
inductive Timing where
  /-- The sensor holds the bus until it is ready. Bit 3 of `REQ` is 0. -/
  | stretched
  /-- The sensor is polled. Bit 3 of `REQ` is 1. -/
  | polled
deriving DecidableEq, Repr

/-- Power Mode, the enumeration Normal, Low (R91, glossary of spec/00_scope.md). -/
inductive Power where
  /-- Bit 4 of `REQ` is 0. -/
  | normal
  /-- Bit 4 of `REQ` is 1. -/
  | low
deriving DecidableEq, Repr

/-- The fourteen rows of spec/opcode_table.json. -/
inductive Instr where
  /-- MEASURE.SN: Stretched timing, Normal power (R176). -/
  | measureSN
  /-- MEASURE.PN: Polled timing, Normal power (R177). -/
  | measurePN
  /-- MEASURE.SL: Stretched timing, Low power (R178). -/
  | measureSL
  /-- MEASURE.PL: Polled timing, Low power (R179). -/
  | measurePL
  /-- IS_PRESENT: presence check (R210). -/
  | isPresent
  /-- SLEEP (R211). -/
  | sleep
  /-- WAKE (R212). -/
  | wake
  /-- CMD.GET_ID, EF C8, sent by IS_PRESENT (R95, R151). -/
  | cmdGetId
  /-- CMD.SLEEP, B0 98, sent by SLEEP (R95, R151). -/
  | cmdSleep
  /-- CMD.WAKE, 35 17, sent by WAKE (R95, R151). -/
  | cmdWake
  /-- CMD.MEAS_NORMAL_POLLED, 78 66, sent by MEASURE.PN (R95, R150). -/
  | cmdMeasNormalPolled
  /-- CMD.MEAS_NORMAL_STRETCHED, 7C A2, sent by MEASURE.SN (R95, R150). -/
  | cmdMeasNormalStretched
  /-- CMD.MEAS_LOW_POLLED, 60 9C, sent by MEASURE.PL (R95, R150). -/
  | cmdMeasLowPolled
  /-- CMD.MEAS_LOW_STRETCHED, 64 58, sent by MEASURE.SL (R95, R150). -/
  | cmdMeasLowStretched
deriving DecidableEq, Repr

/-- The fields of a request word (R91), as read before anything is checked. -/
structure ReqFields where
  /-- Bits 2:0. -/
  op : BitVec 3
  /-- Bit 3. -/
  timing : Timing
  /-- Bit 4. -/
  power : Power
  /-- Bits 7:5, which must be 0. -/
  reserved : BitVec 3
deriving DecidableEq, Repr

/-- The request fields an instruction stands for; none for a wire command, which no host can issue (R102). -/
def Instr.reqFields : Instr → Option ReqFields
  | .measureSN => some ⟨1#3, .stretched, .normal, 0#3⟩
  | .measurePN => some ⟨1#3, .polled, .normal, 0#3⟩
  | .measureSL => some ⟨1#3, .stretched, .low, 0#3⟩
  | .measurePL => some ⟨1#3, .polled, .low, 0#3⟩
  | .isPresent => some ⟨2#3, .stretched, .normal, 0#3⟩
  | .sleep => some ⟨3#3, .stretched, .normal, 0#3⟩
  | .wake => some ⟨4#3, .stretched, .normal, 0#3⟩
  | .cmdGetId => none
  | .cmdSleep => none
  | .cmdWake => none
  | .cmdMeasNormalPolled => none
  | .cmdMeasNormalStretched => none
  | .cmdMeasLowPolled => none
  | .cmdMeasLowStretched => none

end Sys2Proof
end

