-- ==== Sys2Proof/WellFormed.lean ====
section
/-! DEFINITION. Which request fields make one of the seven host operations (spec/30_encoding.md R91, R93, R94). An Instr has no
operand, so each of its terms is well-formed; what can be ill-formed is a request word, and each check below names one
way. -/

namespace Sys2Proof

/-- Bits 7:5 of the request word are 0 (R91). -/
def ReqFields.reservedClear (f : ReqFields) : Bool := f.reserved == 0#3

/-- `OP` names an operation: 1 to 4 (R92). -/
def ReqFields.opKnown (f : ReqFields) : Bool :=
  f.op == 1#3 || f.op == 2#3 || f.op == 3#3 || f.op == 4#3

/-- `TIMING` and `POWER` are 0 unless the operation is MEASURE (R91). -/
def ReqFields.modesOnlyForMeasure (f : ReqFields) : Bool :=
  f.op == 1#3 || (f.timing == .stretched && f.power == .normal)

/-- The fields are those of one of the seven valid request words (R93). -/
def ReqFields.wellFormed (f : ReqFields) : Bool :=
  f.reservedClear && f.opKnown && f.modesOnlyForMeasure

/-- An instruction is well-formed when the request fields it stands for, if any, are. -/
def Instr.wellFormed (i : Instr) : Bool :=
  match i.reqFields with
  | some f => f.wellFormed
  | none => true

end Sys2Proof
end

