-- ==== Sys2Proof/Decode.lean ====
section
/-! DEFINITION. The decoder and the encoder of the block's two instruction formats (spec/30_encoding.md R90): the one-byte
request word `REQ` (R91 to R94) and the two-byte command `WIRE16` (R95, R96). The two formats differ in length, so the
bytes alone say which one is meant. -/

namespace Sys2Proof

/-- Why bytes are no instruction. -/
inductive DecodeError where
  /-- A request word with a non-zero bit in 7:5 (R94). -/
  | reservedBits
  /-- A request word with `OP` 0, 5, 6 or 7 (R94). -/
  | reservedOp
  /-- A request word with `TIMING` or `POWER` set and `OP` 2, 3 or 4 (R94). -/
  | modeOnModeless
  /-- Two bytes that are no row of the command table (R95). -/
  | unknownCommand
  /-- No byte at all. -/
  | truncated
  /-- More bytes than the longest format has (R90). -/
  | tooLong
deriving DecidableEq, Repr

/-- What the decoder answers. -/
inductive DecodeResult where
  | instr (i : Instr)
  | rejected (e : DecodeError)
deriving DecidableEq, Repr

/-- The mode of bit 3 (R91). -/
def timingOfBit (b : Bool) : Timing := if b then .polled else .stretched

/-- The mode of bit 4 (R91). -/
def powerOfBit (b : Bool) : Power := if b then .low else .normal

/-- Bit 3 of a mode (R91). -/
def timingBit : Timing → Bool
  | .stretched => false
  | .polled => true

/-- Bit 4 of a mode (R91). -/
def powerBit : Power → Bool
  | .normal => false
  | .low => true

/-- The fields of a request word (R91). -/
def reqFieldsOf (w : Byte) : ReqFields :=
  { op := w.extractLsb' 0 3
    timing := timingOfBit (w.getLsbD 3)
    power := powerOfBit (w.getLsbD 4)
    reserved := w.extractLsb' 5 3 }

/-- The request word of given fields (R91). -/
def reqWordOf (f : ReqFields) : Byte :=
  f.reserved ++ BitVec.ofBool (powerBit f.power) ++ BitVec.ofBool (timingBit f.timing) ++ f.op

/-- `valid(w)`, the decoder the spec writes out (R93):
`(w[7:5] == 0) and ((w[2:0] == 1) or (w[2:0] in {2, 3, 4} and w[4:3] == 0))`. -/
def validRequest (w : Byte) : Bool :=
  w.extractLsb' 5 3 == 0#3 &&
    (w.extractLsb' 0 3 == 1#3 ||
      ((w.extractLsb' 0 3 == 2#3 || w.extractLsb' 0 3 == 3#3 || w.extractLsb' 0 3 == 4#3) &&
        w.extractLsb' 3 2 == 0#2))

/-- The MEASURE instruction of a pair of modes (R92, R93). -/
def measureInstr : Timing → Power → Instr
  | .stretched, .normal => .measureSN
  | .polled, .normal => .measurePN
  | .stretched, .low => .measureSL
  | .polled, .low => .measurePL

/-- A request without modes: the instruction, or a rejection when a mode bit is set (R91, R94). -/
def modeless (f : ReqFields) (i : Instr) : DecodeResult :=
  if f.timing = .stretched ∧ f.power = .normal then .instr i else .rejected .modeOnModeless

/-- Decode a request word (R91 to R94). -/
def decodeReq (w : Byte) : DecodeResult :=
  let f := reqFieldsOf w
  if f.reserved ≠ 0#3 then .rejected .reservedBits
  else if f.op = 1#3 then .instr (measureInstr f.timing f.power)
  else if f.op = 2#3 then modeless f .isPresent
  else if f.op = 3#3 then modeless f .sleep
  else if f.op = 4#3 then modeless f .wake
  else .rejected .reservedOp

/-- Decode a command, first byte on the wire first (R95). A command has no fields: it is an opaque literal. -/
def decodeWire (b0 b1 : Byte) : DecodeResult :=
  if b0 = 0xEF#8 ∧ b1 = 0xC8#8 then .instr .cmdGetId
  else if b0 = 0xB0#8 ∧ b1 = 0x98#8 then .instr .cmdSleep
  else if b0 = 0x35#8 ∧ b1 = 0x17#8 then .instr .cmdWake
  else if b0 = 0x78#8 ∧ b1 = 0x66#8 then .instr .cmdMeasNormalPolled
  else if b0 = 0x7C#8 ∧ b1 = 0xA2#8 then .instr .cmdMeasNormalStretched
  else if b0 = 0x60#8 ∧ b1 = 0x9C#8 then .instr .cmdMeasLowPolled
  else if b0 = 0x64#8 ∧ b1 = 0x58#8 then .instr .cmdMeasLowStretched
  else .rejected .unknownCommand

/-- Decode any bytes: one byte is a request word, two bytes a command (R90). -/
def decode : List Byte → DecodeResult
  | [] => .rejected .truncated
  | [w] => decodeReq w
  | [b0, b1] => decodeWire b0 b1
  | _ :: _ :: _ :: _ => .rejected .tooLong

/-- The bytes of an instruction, written from the tables of R93 and R95, first byte first. -/
def encode : Instr → List Byte
  | .measureSN => [0x01#8]
  | .measurePN => [0x09#8]
  | .measureSL => [0x11#8]
  | .measurePL => [0x19#8]
  | .isPresent => [0x02#8]
  | .sleep => [0x03#8]
  | .wake => [0x04#8]
  | .cmdGetId => [0xEF#8, 0xC8#8]
  | .cmdSleep => [0xB0#8, 0x98#8]
  | .cmdWake => [0x35#8, 0x17#8]
  | .cmdMeasNormalPolled => [0x78#8, 0x66#8]
  | .cmdMeasNormalStretched => [0x7C#8, 0xA2#8]
  | .cmdMeasLowPolled => [0x60#8, 0x9C#8]
  | .cmdMeasLowStretched => [0x64#8, 0x58#8]

/-- The bytes of a word of spec/opcode_table.json, first byte first. A 16-bit row is one 16-bit word whose bits 15:8 are
the byte sent first (R66). -/
def bytesOfTableWord (nbits w : Nat) : List Byte :=
  if nbits = 8 then [BitVec.ofNat 8 w]
  else if nbits = 16 then [BitVec.ofNat 8 (w / 256), BitVec.ofNat 8 w]
  else []

/-- The instruction the decoder answered, if it did. -/
def DecodeResult.toOption : DecodeResult → Option Instr
  | .instr i => some i
  | .rejected _ => none

/-- The instruction the decoder reads from a row's word, numbered as spec/opcode_table.json numbers its bits. -/
def decodeTableWord (nbits w : Nat) : Option Instr :=
  (decode (bytesOfTableWord nbits w)).toOption

/-- The host operation that sends a wire command (R93, last column); a host operation is its own. -/
def senderOf : Instr → Instr
  | .measureSN => .measureSN
  | .measurePN => .measurePN
  | .measureSL => .measureSL
  | .measurePL => .measurePL
  | .isPresent => .isPresent
  | .sleep => .sleep
  | .wake => .wake
  | .cmdGetId => .isPresent
  | .cmdSleep => .sleep
  | .cmdWake => .wake
  | .cmdMeasNormalPolled => .measurePN
  | .cmdMeasNormalStretched => .measureSN
  | .cmdMeasLowPolled => .measurePL
  | .cmdMeasLowStretched => .measureSL

end Sys2Proof
end

