-- ==== Sys2Proof/Config.lean ====
section
/-! DEFINITION. The implementation parameters of spec/00_scope.md R5, and the values the spec leaves open: opaque
constants, of which no proof can know anything. -/

namespace Sys2Proof.Config

/-- `CRC_POLY` without its x^8 term: the value exclusive-or-ed into the 8-bit register (R5, R120). -/
def crcPoly : Byte := 0x31#8

/-- `CRC_INIT` (R5, R120). -/
def crcInit : Byte := 0xFF#8

/-- `PROBE_MAX`: the bound on single-byte probe reads (R5, R24). -/
def probeMax : BitVec 5 := 20#5

/-- `PROBE_DELAY`: the duration asked of the delay capability after a failed probe (R5, R101). -/
def probeDelay : Byte := 1#8

/-- `DEV_ADDR_DEFAULT` (R5, R27). -/
def devAddrDefault : Byte := 0x70#8

/-- `DELAY_UNIT`: the physical length of one delay unit, in any fixed time base. The spec leaves it open (R5, R63, D10),
so it is a constant without a value. UNVERIFIED, safe: nothing can be proved of its size. Log 14. -/
opaque delayUnit : Nat

/-- The bytes of `RX` after a failed 6-byte or 3-byte read, which the spec calls unspecified (R23, R62, D16): byte `i`
of the `n`-th such read. A FREE VALUE, safe: a claim that is true whatever it is holds whatever the hardware
leaves there. Log 5. -/
opaque freeReplyByte : Nat → Nat → Byte

/-- Whether the humidity field is still checked when the temperature field has failed. The spec leaves it open, as nothing the host
sees depends on it (R172, D17); the one register that differs is `CRC`. A FREE VALUE, safe. Log 6. -/
opaque secondCheckAlways : Bool

end Sys2Proof.Config
end

