-- ==== Sys2Proof/Machine/State.lean ====
section
/-! DEFINITION. The state of the block as plain data: every register of spec/10_state.md R20, and three fields of the
model's own (what the outside world does next, the trace, the counter of unspecified bytes). -/

namespace Sys2Proof.Machine

/-- Why the machine stops with a fault. -/
inductive Fault where
  /-- A command write was answered with success while `OPL.OP` names no operation: R164 and R175 give no row for it, so
  the sequencer is stuck. Raised by the answer of the command write only; no run from reset reaches it.
  DESIGN CHOICE, safe: the model stops where the spec says nothing happens. Log 12. -/
  | noSequencerRow
deriving DecidableEq, Repr

/-- Why the machine gives an instruction no meaning. -/
inductive Refusal where
  /-- The instruction has no meaning in the model yet; raised by `exec`'s arm alone. Safe. No arm uses it now. -/
  | notModelled (mnemonic : String)
deriving DecidableEq, Repr

/-- The sequencer's position `STATE`: the external event it waits for (R25). -/
inductive Seq where
  /-- `S_IDLE`: a request from the host. -/
  | idle
  /-- `S_WRITE`: the answer of the 2-byte command write. -/
  | write
  /-- `S_PROBE`: the answer of a 1-byte probe read. -/
  | probe
  /-- `S_DELAY`: the return of a 1-unit delay. -/
  | delay
  /-- `S_READ6`: the answer of the 6-byte reply read. -/
  | read6
  /-- `S_READ3`: the answer of the 3-byte presence read. -/
  | read3
deriving DecidableEq, Repr

/-- The failure kinds (R221). Codes 5, 6 and 7 are never produced, so they have no constructor. -/
inductive ErrKind where
  /-- 0, `NONE`: no failure. -/
  | none
  /-- 1, `INVALID_REQ` (R222). -/
  | invalidReq
  /-- 2, `WRITE_FAILED` (R223). -/
  | writeFailed
  /-- 3, `READ_FAILED` (R224). -/
  | readFailed
  /-- 4, `CRC_MISMATCH` (R225). -/
  | crcMismatch
deriving DecidableEq, Repr

/-- The operation latch `OPL` (R26). -/
structure Latch where
  /-- `OPL.OP`, 3 bits; after an invalid request it may name no operation (R29). -/
  op : BitVec 3
  /-- `OPL.TIMING`. -/
  timing : Timing
  /-- `OPL.POWER`. -/
  power : Power
deriving DecidableEq, Repr

/-- The command buffer `CMD[0..1]`, `CMD[0]` sent first (R22). -/
structure Command where
  b0 : Byte
  b1 : Byte
deriving DecidableEq, Repr

/-- Six bytes off the wire, `b0` first: the reply buffer `RX[0..5]` (R23), or a measurement reply (R97). -/
structure Reply where
  b0 : Byte
  b1 : Byte
  b2 : Byte
  b3 : Byte
  b4 : Byte
  b5 : Byte
deriving DecidableEq, Repr

/-- The fields of `STATUS` (R28). -/
structure Status where
  /-- Bit 0: an operation is running. -/
  busy : Bool
  /-- Bit 1: an operation has completed and no newer one has started. -/
  done : Bool
  /-- Bit 2: the completed operation passed. -/
  ok : Bool
  /-- Bit 3: the result registers hold a validated Measurement. -/
  measValid : Bool
  /-- Bit 4: a probe read succeeded in the current or last operation. -/
  probeHit : Bool
  /-- Bits 7:5. -/
  errKind : ErrKind
deriving DecidableEq, Repr

/-- What the outside world does, one thing at a time: the input pins of R76, R77, R78 and R250. -/
inductive Input where
  /-- The host writes `data` to the register `sel` (`h_we`, R78). -/
  | hostWrite (sel : BitVec 3) (data : Word32)
  /-- The host reads the register `sel` (R78). -/
  | hostRead (sel : BitVec 3)
  /-- The host waits: it reads `STATUS` again and again, and makes no other access, until `DONE` reads 1 (R103). Log 18. -/
  | hostWait
  /-- The transport answers: `tp_done` with `tp_ok` and `tp_rdata` (R76). -/
  | tpDone (ok : Bool) (rdata : RData)
  /-- The delay capability returns: `dl_done` (R77). -/
  | dlDone
  /-- `rst` is asserted (R250). -/
  | rst
deriving DecidableEq, Repr

/-- One answered transaction of a trace (R184), with the address it carried (R74). -/
inductive Transaction where
  /-- `W[b0 b1]:ok` or `W[b0 b1]:fail`. -/
  | write (addr b0 b1 : Byte) (ok : Bool)
  /-- `R1:ok` or `R1:fail`; the byte is discarded (R100). -/
  | read1 (addr : Byte) (ok : Bool)
  /-- `R3:ok[...]`, or `R3:fail` for none. -/
  | read3 (addr : Byte) (bytes : Option (Byte × Byte × Byte))
  /-- `R6:ok[...]`, or `R6:fail` for none. -/
  | read6 (addr : Byte) (bytes : Option Reply)
  /-- `D1`: a delay that returned, with the duration asked for. -/
  | delay (duration : Byte)
deriving DecidableEq, Repr

/-- The state of the block (R20), and the model's own `inputs`, `trace` and `draws`. -/
structure State where
  /-- `STATE` (R25). -/
  seq : Seq
  /-- `OPL` (R26). -/
  opl : Latch
  /-- `CMD[0..1]` (R22). -/
  cmd : Command
  /-- `RX[0..5]` (R23). -/
  rx : Reply
  /-- `CRC` (R21). -/
  crc : Byte
  /-- `PROBE_CNT` (R24). -/
  probeCnt : BitVec 5
  /-- `DEV_ADDR` (R27). -/
  devAddr : Byte
  /-- `STATUS` (R28). -/
  status : Status
  /-- `T_RAW` (R30). -/
  tRaw : Raw16
  /-- `RH_RAW` (R30). -/
  rhRaw : Raw16
  /-- `TEMP`, a binary32 pattern (R31). -/
  temp : Word32
  /-- `RH`, a binary32 pattern (R31). -/
  rh : Word32
  /-- The MODEL's own: what the host, the capabilities and the reset line do next, first thing first. The capabilities are
  oracles (R8), so a statement over every state is one over everything they may do. DESIGN CHOICE, safe. Log 1. -/
  inputs : List Input
  /-- The MODEL's own: the trace of the current or last operation, oldest transaction first (R184).
  DESIGN CHOICE, safe. Log 4. -/
  trace : List Transaction
  /-- The MODEL's own: how many reads have left unspecified bytes in `RX`; it picks the free bytes of the next.
  DESIGN CHOICE, safe. Log 5. -/
  draws : Nat
deriving DecidableEq, Repr

/-- `STATUS` = 0x00 (R38). -/
def Status.clear : Status :=
  { busy := false, done := false, ok := false, measValid := false, probeHit := false, errKind := .none }

/-- The state after reset (R38, R250); the three fields of the model's own are empty. -/
def State.reset : State :=
  { seq := .idle
    opl := ⟨0#3, .stretched, .normal⟩
    cmd := ⟨0#8, 0#8⟩
    rx := ⟨0#8, 0#8, 0#8, 0#8, 0#8, 0#8⟩
    crc := Config.crcInit
    probeCnt := 0#5
    devAddr := Config.devAddrDefault
    status := Status.clear
    tRaw := 0#16
    rhRaw := 0#16
    temp := 0#32
    rh := 0#32
    inputs := []
    trace := []
    draws := 0 }

end Sys2Proof.Machine
end

