-- ==== Sys2Proof/Machine/Operands.lean ====
section
/-! DEFINITION. How bytes become operands: the bytes of a transport answer (spec/20_memory.md R76), the reply decoder RDEC
(spec/41_reply_decoder.md R140 to R142) and the fields of a host write (spec/10_state.md R27, R29). -/

namespace Sys2Proof.Machine

/-- `be16(h, l)`: the first byte on the wire is bits 15:8 (R65, R142). -/
def be16 (h l : Byte) : Raw16 := h.setWidth 16 <<< 8 ||| l.setWidth 16

/-- Byte `B[i]` of `tp_rdata`: bits 47-8i to 40-8i (R76). -/
def rdataByte (d : RData) (i : Nat) : Byte := d.extractLsb' (40 - 8 * i) 8

/-- The six bytes of a measurement read, in wire order (R62, R76). -/
def replyOf (d : RData) : Reply :=
  ⟨rdataByte d 0, rdataByte d 1, rdataByte d 2, rdataByte d 3, rdataByte d 4, rdataByte d 5⟩

/-- The bytes of a presence read go to `RX[0..2]`; `RX[3..5]` keep what they held (R23, R141). -/
def loadReply3 (d : RData) (rx : Reply) : Reply :=
  { rx with b0 := rdataByte d 0, b1 := rdataByte d 1, b2 := rdataByte d 2 }

/-- A checked field of a reply: two bytes in wire order and their checksum byte. -/
structure ReplyField where
  hi : Byte
  lo : Byte
  sum : Byte
deriving DecidableEq, Repr

/-- `DEC6`: the temperature field and the humidity field (R97, R140). -/
def dec6 (rx : Reply) : ReplyField × ReplyField :=
  (⟨rx.b0, rx.b1, rx.b2⟩, ⟨rx.b3, rx.b4, rx.b5⟩)

/-- `DEC3`: the ID field (R98, R141). -/
def dec3 (rx : Reply) : ReplyField := ⟨rx.b0, rx.b1, rx.b2⟩

/-- The request word of a write to `REQ`: bits 7:0; bits 31:8 are ignored (R29). -/
def requestWord (data : Word32) : Byte := data.setWidth 8

/-- The address of a write to `DEV_ADDR`: bits 7:0; bits 31:8 are ignored (R27). -/
def addressByte (data : Word32) : Byte := data.setWidth 8

/-- Six free bytes for `RX` after the `n`-th failed read (R23, R62). FREE VALUE, safe. Log 5. -/
def unspecifiedReply (n : Nat) : Reply :=
  ⟨Config.freeReplyByte n 0, Config.freeReplyByte n 1, Config.freeReplyByte n 2, Config.freeReplyByte n 3,
    Config.freeReplyByte n 4, Config.freeReplyByte n 5⟩

end Sys2Proof.Machine
end

