-- ==== Sys2Proof/Machine/Checksum.lean ====
section
/-! DEFINITION. The checksum validator CRCU (spec/40_checksum.md): CRC-8, polynomial 0x131, initial value 0xFF, most
significant bit first, no reflection and no final exclusive-or (R120). -/

namespace Sys2Proof.Machine

/-- `CRC.BIT`: one shift; the high bit is tested before it (R121). -/
def crcBit (c : Byte) : Byte :=
  if c.getLsbD 7 then (c <<< 1) ^^^ Config.crcPoly else c <<< 1

/-- `CRC.BYTE`: the whole byte is exclusive-or-ed in, then exactly eight shifts (R122). -/
def crcByte (c b : Byte) : Byte :=
  crcBit (crcBit (crcBit (crcBit (crcBit (crcBit (crcBit (crcBit (c ^^^ b))))))))

/-- A span absorbed into the register `c`, the first byte first (R123). -/
def crcFrom (c : Byte) (span : List Byte) : Byte := span.foldl crcByte c

/-- `crc8(B)` (R123). -/
def crc8 (span : List Byte) : Byte := crcFrom Config.crcInit span

/-- `crc0(B)`: the same computation started from 0x00 (R128). -/
def crc0 (span : List Byte) : Byte := crcFrom 0#8 span

/-- `validate(B, e)`, `CRC.CHECK` (R124). -/
def validate (span : List Byte) (expected : Byte) : Bool := crc8 span == expected

/-- The check of one field: high byte absorbed first (R143). -/
def ReplyField.valid (f : ReplyField) : Bool := validate [f.hi, f.lo] f.sum

/-- `CRC.INIT` on the one `CRC` register (R126). -/
def crcInit (s : State) : State := { s with crc := Config.crcInit }

/-- `CRC.BYTE b` on the `CRC` register (R126). -/
def crcAbsorb (b : Byte) (s : State) : State := { s with crc := crcByte s.crc b }

/-- `CRC.CMP e` (R126). -/
def crcCompare (e : Byte) (s : State) : Bool := s.crc == e

/-- A field check is always `CRC.INIT; CRC.BYTE h; CRC.BYTE l; CRC.CMP e` (R126): what it leaves in the register. -/
def checkField (f : ReplyField) (s : State) : State := crcAbsorb f.lo (crcAbsorb f.hi (crcInit s))

/-- The result of a field check, read by `CRC.CMP` after `checkField` (R126). -/
def fieldPasses (f : ReplyField) (s : State) : Bool := crcCompare f.sum (checkField f s)

end Sys2Proof.Machine
end

