-- ==== Sys2Proof/Machine/Convert.lean ====
section
/-! DEFINITION. The unit converter UCNV (spec/44_unit_converter.md). Every result is a numerator over 65536 and is exactly
representable in binary32, so no rounding enters (R202). -/

namespace Sys2Proof.Machine

/-- `CONV.T`: the numerator `NT` of the temperature over 65536, in degrees Celsius (R200). -/
def convT (raw : Raw16) : Int := 175 * (raw.toNat : Int) - 2949120

/-- `CONV.RH`: the numerator `NH` of the relative humidity over 65536, in percent (R201). -/
def convRH (raw : Raw16) : Int := 100 * (raw.toNat : Int)

/-- The sign bit of a numerator (R202). -/
def signBit (n : Int) : Word32 := if n < 0 then 1#32 else 0#32

/-- `f32(N / 65536)`: the binary32 pattern, for |N| < 2^24 (R202). -/
def f32 (n : Int) : Word32 :=
  if n = 0 then 0#32
  else
    let m := n.natAbs
    let e := Nat.log2 m
    signBit n <<< 31 ||| BitVec.ofNat 32 (e + 111) <<< 23 |||
      (BitVec.ofNat 32 m <<< (23 - e) &&& 0x7FFFFF#32)

/-- `TEMP` of a validated raw value (R172). -/
def tempPattern (raw : Raw16) : Word32 := f32 (convT raw)

/-- `RH` of a validated raw value (R172). -/
def rhPattern (raw : Raw16) : Word32 := f32 (convRH raw)

end Sys2Proof.Machine
end

