-- ==== Sys2Proof/Machine/Flags.lean ====
section
/-! DEFINITION. The flags: the `STATUS` word (spec/10_state.md R28, R34; spec/60_exceptions.md R221) and the ways a step
writes it. The block has no arithmetic condition codes (R34). -/

namespace Sys2Proof.Machine

/-- The code of a failure kind (R221). -/
def errCode : ErrKind → BitVec 3
  | .none => 0#3
  | .invalidReq => 1#3
  | .writeFailed => 2#3
  | .readFailed => 3#3
  | .crcMismatch => 4#3

/-- Bits 7:0 of `STATUS` (R28). -/
def statusByte (f : Status) : Byte :=
  errCode f.errKind ++ BitVec.ofBool f.probeHit ++ BitVec.ofBool f.measValid ++ BitVec.ofBool f.ok ++
    BitVec.ofBool f.done ++ BitVec.ofBool f.busy

/-- `STATUS` at acceptance, before the request is tested: DONE, OK, MEAS_VALID, PROBE_HIT and ERR_KIND are cleared (R161). -/
def statusAccepted (f : Status) : Status :=
  { f with done := false, ok := false, measValid := false, probeHit := false, errKind := .none }

/-- `STATUS.BUSY <- 1` (R163). -/
def statusBusy (f : Status) : Status := { f with busy := true }

/-- `STATUS.PROBE_HIT <- 1` (R167). -/
def statusProbeHit (f : Status) : Status := { f with probeHit := true }

/-- `STATUS.MEAS_VALID <- 1` (R172). -/
def statusMeasValid (f : Status) : Status := { f with measValid := true }

/-- `STATUS` after `complete Pass` (R173). -/
def statusPassed (f : Status) : Status :=
  { f with busy := false, done := true, ok := true, errKind := .none }

/-- `STATUS` after `raise Fail(kind)` (R229). -/
def statusFailed (kind : ErrKind) (f : Status) : Status :=
  { f with busy := false, done := true, ok := false, errKind := kind, measValid := false }

end Sys2Proof.Machine
end

