-- ==== Sys2Proof/Machine/Select.lean ====
section
/-! DEFINITION. The command selector CSEL (spec/42_command_selector.md): a lookup of seven literals. The spec states no relation
between the codes, so none is computed from another (R150). -/

namespace Sys2Proof.Machine

/-- `SEL.MEAS` (R150). -/
def selMeas : Timing → Power → Command
  | .polled, .normal => ⟨0x78#8, 0x66#8⟩
  | .stretched, .normal => ⟨0x7C#8, 0xA2#8⟩
  | .polled, .low => ⟨0x60#8, 0x9C#8⟩
  | .stretched, .low => ⟨0x64#8, 0x58#8⟩

/-- `SEL.FIXED` (R151): for IS_PRESENT (2), SLEEP (3) and WAKE (4); none for the operation codes it is never called on. -/
def selFixed (op : BitVec 3) : Option Command :=
  if op = 2#3 then some ⟨0xEF#8, 0xC8#8⟩
  else if op = 3#3 then some ⟨0xB0#8, 0x98#8⟩
  else if op = 4#3 then some ⟨0x35#8, 0x17#8⟩
  else none

/-- The command of a latched operation (R163); none when `OPL.OP` names no operation. -/
def selectCommand (l : Latch) : Option Command :=
  if l.op = 1#3 then some (selMeas l.timing l.power) else selFixed l.op

/-- `CMD <- ...` at acceptance (R163); an operation without a command leaves `CMD` alone (R152). -/
def loadCommand (s : State) : State :=
  match selectCommand s.opl with
  | some c => { s with cmd := c }
  | none => s

end Sys2Proof.Machine
end

