-- ==== Sys2Proof/Machine/Ops.lean ====
section
/-! DEFINITION. The named operations on the registers: issuing a transaction, taking a failure, completing, and accepting a
request. The block has no memory (spec/20_memory.md R60). -/

namespace Sys2Proof.Machine

/-- Append an answered transaction to the trace (R184). -/
def record (t : Transaction) (s : State) : State := { s with trace := s.trace ++ [t] }

/-- Go past the next thing the outside world does. -/
def popInput (s : State) : State := { s with inputs := s.inputs.tail }

/-- `raise Fail(kind)`, in one step (R229): this hardware's exception. Nothing is saved and control goes nowhere; the result
registers are not written, and `PROBE_CNT`, `PROBE_HIT`, `OPL`, `CMD`, `DEV_ADDR` keep their values. -/
def raiseFail (kind : ErrKind) (s : State) : State :=
  { s with status := statusFailed kind s.status, seq := .idle }

/-- `complete Pass`, in one step (R173). There is no return from a failure (R230): this is the other way an operation ends. -/
def completePass (s : State) : State :=
  { s with status := statusPassed s.status, seq := .idle }

/-- Issue `TWrite(DEV_ADDR, [CMD[0], CMD[1]])`: BUSY is set and the sequencer waits for its answer (R163). -/
def issueWrite (s : State) : State := { s with status := statusBusy s.status, seq := .write }

/-- Issue a probe, `TRead(DEV_ADDR, 1)`: `PROBE_CNT` becomes its ordinal in the same step (R166). -/
def issueProbe (ordinal : BitVec 5) (s : State) : State := { s with probeCnt := ordinal, seq := .probe }

/-- Issue `Delay(1)` (R168). -/
def issueDelay (s : State) : State := { s with seq := .delay }

/-- Issue the final `TRead(DEV_ADDR, 6)` (R164, R167, R169). -/
def issueRead6 (s : State) : State := { s with seq := .read6 }

/-- Issue `TRead(DEV_ADDR, 3)` (R164). -/
def issueRead3 (s : State) : State := { s with seq := .read3 }

/-- `OPL` of a request word (R161); bits 7:5 are not kept (R29). -/
def latchOf (w : Byte) : Latch :=
  { op := (reqFieldsOf w).op, timing := (reqFieldsOf w).timing, power := (reqFieldsOf w).power }

/-- The first part of acceptance, the same for every request: latch, clear the flags, the counter and the results (R161).
The model's trace starts again: the trace of an operation is its own (R184). Log 4. -/
def latchRequest (w : Byte) (s : State) : State :=
  { s with
    opl := latchOf w
    status := statusAccepted s.status
    probeCnt := 0#5
    tRaw := 0#16
    rhRaw := 0#16
    temp := 0#32
    rh := 0#32
    trace := [] }

/-- The acceptance step (R161 to R163, rows T1 and T2 of R175). -/
def acceptRequest (w : Byte) (s : State) : State :=
  if validRequest w then issueWrite (loadCommand (latchRequest w s))
  else raiseFail .invalidReq (latchRequest w s)

/-- A host write of `REQ`: accepted while idle, dropped while busy (R29, R161, R255, row T18 of R175). -/
def hostRequest (w : Byte) (s : State) : State :=
  match s.seq with
  | .idle => acceptRequest w s
  | .write => s
  | .probe => s
  | .delay => s
  | .read6 => s
  | .read3 => s

/-- The results of a double checksum success, in wire order (R172). -/
def commitResults (t h : ReplyField) (s : State) : State :=
  { s with
    tRaw := be16 t.hi t.lo
    rhRaw := be16 h.hi h.lo
    temp := tempPattern (be16 t.hi t.lo)
    rh := rhPattern (be16 h.hi h.lo)
    status := statusMeasValid s.status }

/-- `RX` after a failed 6-byte or 3-byte read: unspecified (R23, R62). FREE VALUE, safe. Log 5. -/
def spoilReply (s : State) : State := { s with rx := unspecifiedReply s.draws, draws := s.draws + 1 }

end Sys2Proof.Machine
end

