-- ==== Sys2Proof/Machine/Measure.lean ====
section
/-! DEFINITION. The four MEASURE instructions (spec/43_sequencer.md R176 to R179). Running one is a host write of its request
word: the acceptance step (R161 to R163), which ends with the command write issued. The answers then drive the
operation (Machine/Sequencer.lean), as the step relation of R175 has it. -/

namespace Sys2Proof.Machine

/-- MEASURE.SN, request word 0x01 (R176). -/
def execMeasureSN (s : State) : Host.Outcome State Fault Refusal := .next (hostRequest 0x01#8 s)

/-- MEASURE.PN, request word 0x09 (R177). -/
def execMeasurePN (s : State) : Host.Outcome State Fault Refusal := .next (hostRequest 0x09#8 s)

/-- MEASURE.SL, request word 0x11 (R178). -/
def execMeasureSL (s : State) : Host.Outcome State Fault Refusal := .next (hostRequest 0x11#8 s)

/-- MEASURE.PL, request word 0x19 (R179). -/
def execMeasurePL (s : State) : Host.Outcome State Fault Refusal := .next (hostRequest 0x19#8 s)

end Sys2Proof.Machine
end

