-- ==== Sys2Proof/Machine/Peripheral.lean ====
section
/-! DEFINITION. IS_PRESENT, SLEEP and WAKE (spec/45_peripheral_ops.md R210 to R212): the acceptance step of each (R161 to
R163). The answers then drive the operation (Machine/Sequencer.lean). -/

namespace Sys2Proof.Machine

/-- IS_PRESENT, request word 0x02 (R210). -/
def execIsPresent (s : State) : Host.Outcome State Fault Refusal := .next (hostRequest 0x02#8 s)

/-- SLEEP, request word 0x03 (R211). -/
def execSleep (s : State) : Host.Outcome State Fault Refusal := .next (hostRequest 0x03#8 s)

/-- WAKE, request word 0x04 (R212). -/
def execWake (s : State) : Host.Outcome State Fault Refusal := .next (hostRequest 0x04#8 s)

end Sys2Proof.Machine
end

