-- ==== Sys2Proof/Machine/Sequencer.lean ====
section
/-! DEFINITION. The measurement sequencer MSEQ (spec/43_sequencer.md): what each answer does, rows T3 to T17 of R175. -/

namespace Sys2Proof.Machine

/-- After a successful command write (R164, rows T4 to T7). An `OPL.OP` that names no operation has no row: the sequencer is
stuck (log 12). -/
def afterWrite (s : State) : Host.Outcome State Fault Refusal :=
  if s.opl.op = 1#3 then
    match s.opl.timing with
    | .stretched => .next (issueRead6 s)
    | .polled => .next (issueProbe 1#5 s)
  else if s.opl.op = 2#3 then .next (issueRead3 s)
  else if s.opl.op = 3#3 then .next (completePass s)
  else if s.opl.op = 4#3 then .next (completePass s)
  else .fault .noSequencerRow

/-- The answer of the command write (R164, rows T3 to T7). -/
def answerWrite (ok : Bool) (s : State) : Host.Outcome State Fault Refusal :=
  let s := record (.write s.devAddr s.cmd.b0 s.cmd.b1 ok) s
  if ok then afterWrite s else .next (raiseFail .writeFailed s)

/-- The answer of a probe read; its byte is discarded (R167, R168, rows T8 and T9). -/
def answerProbe (ok : Bool) (s : State) : State :=
  let s := record (.read1 s.devAddr ok) s
  if ok then issueRead6 { s with status := statusProbeHit s.status } else issueDelay s

/-- The return of a delay (R169, rows T10 and T11). A failed probe is followed by a delay, the twentieth too, and exhaustion is
silent (R168, R170). -/
def answerDelay (s : State) : State :=
  let s := record (.delay Config.probeDelay) s
  if s.probeCnt < Config.probeMax then issueProbe (s.probeCnt + 1#5) s else issueRead6 s

/-- The second check of a frame, as it leaves the `CRC` register: made after a first success, and after a first failure only where
the implementation makes it all the same. FREE VALUE, log 6. -/
def checkSecond (firstOk : Bool) (h : ReplyField) (s : State) : State :=
  { s with crc := if firstOk || Config.secondCheckAlways then (checkField h s).crc else s.crc }

/-- The body of R172: both fields are checked on the one `CRC` register, temperature first, and only a double success commits
(R126, R127, rows T13 and T14). -/
def frameCommit (s : State) : State :=
  let t := (dec6 s.rx).1
  let h := (dec6 s.rx).2
  let tOk := fieldPasses t s
  let s := checkField t s
  let hOk := fieldPasses h s
  let s := checkSecond tOk h s
  if tOk && hOk then completePass (commitResults t h s) else raiseFail .crcMismatch s

/-- The answer of the 6-byte read (R171, R172, rows T12 to T14). -/
def answerRead6 (ok : Bool) (d : RData) (s : State) : State :=
  if ok then
    frameCommit { record (.read6 s.devAddr (some (replyOf d))) s with rx := replyOf d }
  else raiseFail .readFailed (spoilReply (record (.read6 s.devAddr none) s))

/-- The check of a presence reply (R210, rows T16 and T17). The ID is compared with nothing (R98). -/
def presenceCheck (s : State) : State :=
  let id := dec3 s.rx
  let idOk := fieldPasses id s
  let s := checkField id s
  if idOk then completePass s else raiseFail .crcMismatch s

/-- The answer of the 3-byte read (R171, R210, rows T15 to T17). -/
def answerRead3 (ok : Bool) (d : RData) (s : State) : State :=
  if ok then
    presenceCheck
      { record (.read3 s.devAddr (some (rdataByte d 0, rdataByte d 1, rdataByte d 2))) s with
        rx := loadReply3 d s.rx }
  else raiseFail .readFailed (spoilReply (record (.read3 s.devAddr none) s))

/-- An answer of the transport (R175). Without an outstanding transport transaction it is ignored (R76, R252). -/
def transportAnswer (ok : Bool) (d : RData) (s : State) : Host.Outcome State Fault Refusal :=
  match s.seq with
  | .idle => .next s
  | .write => answerWrite ok s
  | .probe => .next (answerProbe ok s)
  | .delay => .next s
  | .read6 => .next (answerRead6 ok d s)
  | .read3 => .next (answerRead3 ok d s)

/-- A return of the delay capability (R169). Without an outstanding delay it is ignored: DEDUCED, log 7. -/
def delayReturn (s : State) : State :=
  match s.seq with
  | .idle => s
  | .write => s
  | .probe => s
  | .delay => answerDelay s
  | .read6 => s
  | .read3 => s

end Sys2Proof.Machine
end

