-- ==== Sys2Proof/Machine/Wire.lean ====
section
/-! DEFINITION. The seven wire commands (spec/30_encoding.md R95, R96). The block writes one to the transport in a command write,
and only there; running the command is the answer of that write (spec/20_memory.md R61, spec/43_sequencer.md R164).
DEDUCED: the spec names them table rows that no host can issue (R102). Log 3. -/

namespace Sys2Proof.Machine

/-- The command write that carries these two bytes is answered (R61, R96, R164). While no answer has come the block waits and
nothing changes (R70, R75); when no such write is outstanding there is nothing to answer (R175). -/
def commandWrite (b0 b1 : Byte) (s : State) : Host.Outcome State Fault Refusal :=
  if s.seq = .write ∧ s.cmd = ⟨b0, b1⟩ then
    match s.inputs with
    | .tpDone ok _ :: _ => answerWrite ok (popInput s)
    | _ => .next s
  else .next s

/-- CMD.GET_ID (R151). -/
def execCmdGetId (s : State) : Host.Outcome State Fault Refusal := commandWrite 0xEF#8 0xC8#8 s

/-- CMD.SLEEP (R151). -/
def execCmdSleep (s : State) : Host.Outcome State Fault Refusal := commandWrite 0xB0#8 0x98#8 s

/-- CMD.WAKE (R151). -/
def execCmdWake (s : State) : Host.Outcome State Fault Refusal := commandWrite 0x35#8 0x17#8 s

/-- CMD.MEAS_NORMAL_POLLED (R150). -/
def execCmdMeasNormalPolled (s : State) : Host.Outcome State Fault Refusal := commandWrite 0x78#8 0x66#8 s

/-- CMD.MEAS_NORMAL_STRETCHED (R150). -/
def execCmdMeasNormalStretched (s : State) : Host.Outcome State Fault Refusal := commandWrite 0x7C#8 0xA2#8 s

/-- CMD.MEAS_LOW_POLLED (R150). -/
def execCmdMeasLowPolled (s : State) : Host.Outcome State Fault Refusal := commandWrite 0x60#8 0x9C#8 s

/-- CMD.MEAS_LOW_STRETCHED (R150). -/
def execCmdMeasLowStretched (s : State) : Host.Outcome State Fault Refusal := commandWrite 0x64#8 0x58#8 s

end Sys2Proof.Machine
end

