-- ==== Sys2Proof/Machine/Dispatch.lean ====
section
/-! DEFINITION. One arm per instruction, each one call of its meaning. -/

namespace Sys2Proof.Machine

def exec (i : Instr) (s : State) : Host.Outcome State Fault Refusal :=
  match i with
  | .measureSN => Sys2Proof.Machine.execMeasureSN s
  | .measurePN => Sys2Proof.Machine.execMeasurePN s
  | .measureSL => Sys2Proof.Machine.execMeasureSL s
  | .measurePL => Sys2Proof.Machine.execMeasurePL s
  | .isPresent => Sys2Proof.Machine.execIsPresent s
  | .sleep => Sys2Proof.Machine.execSleep s
  | .wake => Sys2Proof.Machine.execWake s
  | .cmdGetId => Sys2Proof.Machine.execCmdGetId s
  | .cmdSleep => Sys2Proof.Machine.execCmdSleep s
  | .cmdWake => Sys2Proof.Machine.execCmdWake s
  | .cmdMeasNormalPolled => Sys2Proof.Machine.execCmdMeasNormalPolled s
  | .cmdMeasNormalStretched => Sys2Proof.Machine.execCmdMeasNormalStretched s
  | .cmdMeasLowPolled => Sys2Proof.Machine.execCmdMeasLowPolled s
  | .cmdMeasLowStretched => Sys2Proof.Machine.execCmdMeasLowStretched s

end Sys2Proof.Machine
end

