-- ==== Sys2Proof/Machine/HostPort.lean ====
section
/-! DEFINITION. The ports: the host register map (spec/10_state.md R27 to R33), the outputs of the transport, delay and host
ports (spec/20_memory.md R76 to R78), and the pseudo-operations (spec/30_encoding.md R103, spec/45_peripheral_ops.md R214). -/

namespace Sys2Proof.Machine

/-- A host read of `REQ`: bits 2:0 `OPL.OP`, bit 3 `OPL.TIMING`, bit 4 `OPL.POWER`, zero above (R29, C10). -/
def reqReadByte (l : Latch) : Byte :=
  reqWordOf { op := l.op, timing := l.timing, power := l.power, reserved := 0#3 }

/-- `h_rdata`: the register the index selects; unused upper bits read as 0 (R32, R78). The result registers answer what
they hold even without a Measurement, as the hardware does (R31). Log 9. -/
def hreg (s : State) (sel : BitVec 3) : Word32 :=
  if sel = 0#3 then (reqReadByte s.opl).setWidth 32
  else if sel = 1#3 then (statusByte s.status).setWidth 32
  else if sel = 2#3 then s.devAddr.setWidth 32
  else if sel = 3#3 then s.probeCnt.setWidth 32
  else if sel = 4#3 then s.tRaw.setWidth 32
  else if sel = 5#3 then s.rhRaw.setWidth 32
  else if sel = 6#3 then s.temp
  else s.rh

/-- A host read: no side effect on any state (R32). -/
def hostReadEffect (_sel : BitVec 3) (s : State) : State := s

/-- A host write of `DEV_ADDR`: taken while idle, lost while busy (R27, R258, row T19 of R175). -/
def writeDevAddr (data : Word32) (s : State) : State :=
  match s.seq with
  | .idle => { s with devAddr := addressByte data }
  | .write => s
  | .probe => s
  | .delay => s
  | .read6 => s
  | .read3 => s

/-- A host write (R29, R27, R33): `REQ` is a request, `DEV_ADDR` an address, any other index is read-only. -/
def hostWriteEffect (sel : BitVec 3) (data : Word32) (s : State) : State :=
  if sel = 0#3 then hostRequest (requestWord data) s
  else if sel = 2#3 then writeDevAddr data s
  else s

/-- `rst`: every register takes its reset value, in any state (R250 to R252, row T20 of R175). What the outside world does
afterwards, and the numbering of free bytes, are not the block's to reset (log 17), nor has it a tag by which to tell a late answer (log 10). -/
def resetEffect (s : State) : State := { State.reset with inputs := s.inputs, draws := s.draws }

/-- What the transport port asks for while `tp_req` is high (R76). -/
structure TransportRequest where
  /-- `tp_rw`: false for a write. -/
  isRead : Bool
  /-- `tp_addr`. -/
  addr : Byte
  /-- `tp_len`. -/
  len : BitVec 3
  /-- `tp_wdata`, `CMD[0]` in bits 15:8; meaningful for a write only, so absent on a read. -/
  wdata : Option (BitVec 16)
deriving DecidableEq, Repr

/-- The transport port: none while `tp_req` is low (R36, R76). Log 15. -/
def tpPort (s : State) : Option TransportRequest :=
  match s.seq with
  | .idle => none
  | .write => some ⟨false, s.devAddr, 2#3, some (s.cmd.b0 ++ s.cmd.b1)⟩
  | .probe => some ⟨true, s.devAddr, 1#3, none⟩
  | .delay => none
  | .read6 => some ⟨true, s.devAddr, 6#3, none⟩
  | .read3 => some ⟨true, s.devAddr, 3#3, none⟩

/-- The delay port: `dl_dur` while `dl_req` is high, none while it is low (R77, R101). Log 15. -/
def dlPort (s : State) : Option Byte :=
  match s.seq with
  | .idle => none
  | .write => none
  | .probe => none
  | .delay => some Config.probeDelay
  | .read6 => none
  | .read3 => none

/-- `done_o` (R78, R232). -/
def doneO (s : State) : Bool := s.status.done

/-- `busy_o` (R78, R232). -/
def busyO (s : State) : Bool := s.status.busy

/-- What ends a `WAIT`: bit 1 of register 1 reads 1 (R103). -/
def waitOver (s : State) : Bool := (hreg s 1#3).getLsbD 1

/-- What the host does, as against the capabilities and the reset line (R78). -/
def isHostAccess : Input → Bool
  | .hostWrite _ _ => true
  | .hostRead _ => true
  | .hostWait => true
  | .tpDone _ _ => false
  | .dlDone => false
  | .rst => false

/-- A `WAIT` that is not over, in front of what else is to come: the host makes none of its later accesses, and what the outside
world does next goes ahead of the next poll. If nothing is to come from there, the host polls for ever (R75). Log 18. -/
def waitAgain (es : List Input) : List Input :=
  match es.dropWhile isHostAccess with
  | [] => .hostWait :: es
  | e :: later => e :: .hostWait :: (es.takeWhile isHostAccess ++ later)

/-- One poll of a `WAIT`, on the state past it: a read of `STATUS`, without side effect, and again until `DONE` reads 1
(R32, R103). -/
def pollStatus (s : State) : State :=
  { hostReadEffect 1#3 s with inputs := if waitOver s then s.inputs else waitAgain s.inputs }

/-- The pseudo-operations (R103). -/
inductive PseudoOp where
  /-- `CONSTRUCT addr`. -/
  | construct (addr : Byte)
  /-- `DESTROY`. -/
  | destroy
  /-- `WAIT`. -/
  | wait
deriving DecidableEq, Repr

/-- The host accesses a pseudo-operation expands to (R103, R214). -/
def expandPseudo : PseudoOp → List Input
  | .construct addr => [.hostWrite 2#3 (addr.setWidth 32)]
  | .destroy => []
  | .wait => [.hostWait]

end Sys2Proof.Machine
end

