-- ==== Sys2Proof/Machine/Fetch.lean ====
section
/-! DEFINITION. Where the block finds its next instruction, and what it does when the next input brings none. The block fetches from
no memory (spec/20_memory.md R74): a request word comes from a host write of `REQ` while idle, a wire command from `CMD` when
its write is answered. -/

namespace Sys2Proof.Machine

/-- What the next input asks of the block. -/
inductive Fetched where
  /-- Run this instruction in this state. -/
  | run (i : Instr) (s : State)
  /-- Nothing to decode: this is what happens. -/
  | event (o : Host.Outcome State Fault Refusal)

/-- A host write: a request word while idle is decoded; a word that is no instruction is an invalid request, accepted and failed
(R94, R162); anything else has its register's effect. -/
def fetchRequest (sel : BitVec 3) (data : Word32) (s : State) : Fetched :=
  if sel = 0#3 ∧ s.seq = .idle then
    match decode [requestWord data] with
    | .instr i => .run i s
    | .rejected _ => .event (.next (hostWriteEffect sel data s))
  else .event (.next (hostWriteEffect sel data s))

/-- An answer of the transport: of a command write, the command in `CMD` is the instruction, and it takes the answer itself; any
other answer is the sequencer's. Bytes in `CMD` that are no command, which no run brings about, are answered by the same rule
R164. Log 13. -/
def fetchAnswer (ok : Bool) (d : RData) (s : State) : Fetched :=
  if s.seq = .write then
    match decode [s.cmd.b0, s.cmd.b1] with
    | .instr i => .run i s
    | .rejected _ => .event (transportAnswer ok d (popInput s))
  else .event (transportAnswer ok d (popInput s))

/-- What the next input asks. Without an input the block stays as it is: it waits, for ever if nothing comes (R75). Log 1. -/
def fetch (s : State) : Fetched :=
  match s.inputs with
  | [] => .event (.next s)
  | .hostWrite sel data :: _ => fetchRequest sel data (popInput s)
  | .hostRead sel :: _ => .event (.next (hostReadEffect sel (popInput s)))
  | .hostWait :: _ => .event (.next (pollStatus (popInput s)))
  | .tpDone ok d :: _ => fetchAnswer ok d s
  | .dlDone :: _ => .event (.next (delayReturn (popInput s)))
  | .rst :: _ => .event (.next (resetEffect (popInput s)))

/-- The host writes the request word `w` next, to an idle block. Log 2. -/
def placeRequest (w : Byte) (s : State) : State :=
  { s with
    seq := .idle
    status := { s.status with busy := false }
    inputs := .hostWrite 0#3 (w.setWidth 32) :: s.inputs }

/-- The latch of the operation that sends a command; unchanged for bytes that are no command. Log 2. -/
def senderLatch (b0 b1 : Byte) (l : Latch) : Latch :=
  match decode [b0, b1] with
  | .instr i =>
    match (senderOf i).reqFields with
    | some f => { op := f.op, timing := f.timing, power := f.power }
    | none => l
  | .rejected _ => l

/-- The command write of `b0 b1` is outstanding, for the operation that sends it, and is answered with success next. Log 2. -/
def placeCommand (b0 b1 : Byte) (s : State) : State :=
  { s with
    seq := .write
    status := { s.status with busy := true }
    opl := senderLatch b0 b1 s.opl
    cmd := ⟨b0, b1⟩
    inputs := .tpDone true 0#48 :: s.inputs }

/-- The bytes of an instruction where the block fetches them: one byte from the host, two bytes from `CMD`. -/
def placeBytes (bytes : List Byte) (s : State) : State :=
  match bytes with
  | [w] => placeRequest w s
  | [b0, b1] => placeCommand b0 b1 s
  | [] => s
  | _ :: _ :: _ :: _ => s

end Sys2Proof.Machine
end

