-- ==== Sys2Proof/Machine/Step.lean ====
section
/-! DEFINITION. One step of the block (spec/00_scope.md R8, spec/43_sequencer.md R175), and where a word of the opcode table is put
so that the next step runs it. -/

namespace Sys2Proof.Machine

/-- One step: the next thing the outside world does, with all the computation that follows it. -/
def step (s : State) : Host.Outcome State Fault Refusal :=
  match fetch s with
  | .run i t => exec i t
  | .event o => o

/-- The state whose next step runs the instruction of the table's word `w`. Log 2. -/
def State.withFetchWord (s : State) (nbits w : Nat) : State :=
  placeBytes (bytesOfTableWord nbits w) s

end Sys2Proof.Machine
end

