-- ==== Sys2Proof/Safety.lean ====
section
/-! DEFINITION. The terms claims use: the invariants of the block, the shape of a trace, the bound on an operation's length, the
value a binary32 pattern denotes, and polynomial division as a second reading of the checksum. -/

namespace Sys2Proof.Safety

open Sys2Proof.Machine

/-! ### Invariants (spec/10_state.md R24, R25, R28; spec/30_encoding.md R104) -/

/-- The fields of `STATUS` agree with each other and with `STATE` (R25, R28). -/
structure StatusInv (s : State) : Prop where
  /-- `BUSY` = (`STATE` != `S_IDLE`). -/
  busy : s.status.busy = true ↔ s.seq ≠ .idle
  /-- While busy nothing is completed. -/
  running : s.status.busy = true →
    s.status.done = false ∧ s.status.ok = false ∧ s.status.measValid = false ∧ s.status.errKind = .none
  /-- Idle with nothing completed is the state after reset. -/
  fresh : s.status.busy = false → s.status.done = false → s.status = Status.clear
  /-- A pass has no failure kind. -/
  passed : s.status.done = true → s.status.ok = true → s.status.errKind = .none
  /-- A failure has one, and no Measurement. -/
  failed : s.status.done = true → s.status.ok = false → s.status.errKind ≠ .none ∧ s.status.measValid = false
  /-- A passed operation has a Measurement if and only if it was a MEASURE. -/
  measurement : s.status.ok = true → (s.status.measValid = true ↔ s.opl.op = 1#3)
  /-- A probe can only have succeeded in a Polled MEASURE whose command write succeeded. -/
  hit : s.status.probeHit = true →
    s.opl.op = 1#3 ∧ s.opl.timing = .polled ∧ s.status.errKind ≠ .invalidReq ∧ s.status.errKind ≠ .writeFailed

/-- A running operation is one of the seven, its command is the selected one, and each waiting state belongs to it (R152, R175). -/
structure LatchInv (s : State) : Prop where
  latched : s.seq ≠ .idle → validRequest (reqReadByte s.opl) = true ∧ selectCommand s.opl = some s.cmd
  probing : s.seq = .probe ∨ s.seq = .delay → s.opl.op = 1#3 ∧ s.opl.timing = .polled
  measuring : s.seq = .read6 → s.opl.op = 1#3
  presence : s.seq = .read3 → s.opl.op = 2#3

/-- `PROBE_CNT` (R24, R166, R170). -/
structure ProbeInv (s : State) : Prop where
  bounded : s.probeCnt ≤ Config.probeMax
  polledOnly : s.probeCnt ≠ 0#5 → s.opl.op = 1#3 ∧ s.opl.timing = .polled
  beforeProbes : s.seq = .write → s.probeCnt = 0#5 ∧ s.status.probeHit = false
  duringProbes : s.seq = .probe ∨ s.seq = .delay → s.probeCnt ≠ 0#5 ∧ s.status.probeHit = false
  afterProbes : s.seq = .read6 → s.opl.timing = .polled →
    s.probeCnt ≠ 0#5 ∧ (s.status.probeHit = false → s.probeCnt = Config.probeMax)
  hitCounted : s.status.probeHit = true → s.probeCnt ≠ 0#5

/-- The result registers are zero without a Measurement, and with one they are the conversion of the bytes in `RX`, both of whose
fields pass their checks: the gate that is never skipped (R31, R127, R203). -/
structure ResultInv (s : State) : Prop where
  absent : s.status.measValid = false → s.tRaw = 0#16 ∧ s.rhRaw = 0#16 ∧ s.temp = 0#32 ∧ s.rh = 0#32
  validated : s.status.measValid = true →
    validate [s.rx.b0, s.rx.b1] s.rx.b2 = true ∧ validate [s.rx.b3, s.rx.b4] s.rx.b5 = true ∧
      s.tRaw = be16 s.rx.b0 s.rx.b1 ∧ s.rhRaw = be16 s.rx.b3 s.rx.b4 ∧
        s.temp = tempPattern s.tRaw ∧ s.rh = rhPattern s.rhRaw

/-- The four invariants of the registers together. -/
structure ControlInv (s : State) : Prop where
  status : StatusInv s
  latch : LatchInv s
  probe : ProbeInv s
  result : ResultInv s

/-! ### Traces (spec/43_sequencer.md R181, R184) -/

/-- `(R1:fail D1)` repeated `n` times, every probe at the address `a`. -/
def probeRounds (a : Byte) : Nat → List Transaction
  | 0 => []
  | n + 1 => .read1 a false :: .delay 1#8 :: probeRounds a n

/-- The traces of an operation whose latch is `l` that has run to its end (R184). -/
def FinishedTrace (l : Latch) (t : List Transaction) : Prop :=
  ∃ (a : Byte) (c : Command), selectCommand l = some c ∧
    (t = [.write a c.b0 c.b1 false] ∨
      ((l.op = 3#3 ∨ l.op = 4#3) ∧ t = [.write a c.b0 c.b1 true]) ∨
      (l.op = 2#3 ∧ ∃ b, t = [.write a c.b0 c.b1 true, .read3 a b]) ∨
      (l.op = 1#3 ∧ l.timing = .stretched ∧ ∃ b, t = [.write a c.b0 c.b1 true, .read6 a b]) ∨
      (l.op = 1#3 ∧ l.timing = .polled ∧ ∃ k b, k < 20 ∧
        t = .write a c.b0 c.b1 true :: (probeRounds a k ++ [.read1 a true, .read6 a b])) ∨
      (l.op = 1#3 ∧ l.timing = .polled ∧ ∃ b,
        t = .write a c.b0 c.b1 true :: (probeRounds a 20 ++ [.read6 a b])))

/-- The trace of a running operation: what the waiting state, the latch and `PROBE_CNT` say has been answered so far. -/
def runningTrace (s : State) : List Transaction :=
  let w : Transaction := .write s.devAddr s.cmd.b0 s.cmd.b1 true
  let n := s.probeCnt.toNat
  match s.seq with
  | .idle => []
  | .write => []
  | .probe => w :: probeRounds s.devAddr (n - 1)
  | .delay => w :: (probeRounds s.devAddr (n - 1) ++ [.read1 s.devAddr false])
  | .read6 =>
    match s.opl.timing, s.status.probeHit with
    | .stretched, _ => [w]
    | .polled, true => w :: (probeRounds s.devAddr (n - 1) ++ [.read1 s.devAddr true])
    | .polled, false => w :: probeRounds s.devAddr n
  | .read3 => [w]

/-- The number of answered probe reads in a trace. -/
def probesIn : List Transaction → Nat
  | [] => 0
  | .write _ _ _ _ :: t => probesIn t
  | .read1 _ _ :: t => probesIn t + 1
  | .read3 _ _ :: t => probesIn t
  | .read6 _ _ :: t => probesIn t
  | .delay _ :: t => probesIn t

/-- The number of delays in a trace. -/
def delaysIn : List Transaction → Nat
  | [] => 0
  | .write _ _ _ _ :: t => delaysIn t
  | .read1 _ _ :: t => delaysIn t
  | .read3 _ _ :: t => delaysIn t
  | .read6 _ _ :: t => delaysIn t
  | .delay _ :: t => delaysIn t + 1

/-- The number of command writes in a trace. -/
def writesIn : List Transaction → Nat
  | [] => 0
  | .write _ _ _ _ :: t => writesIn t + 1
  | .read1 _ _ :: t => writesIn t
  | .read3 _ _ :: t => writesIn t
  | .read6 _ _ :: t => writesIn t
  | .delay _ :: t => writesIn t

/-- The number of final reads, of 6 or of 3 bytes, in a trace. -/
def finalReadsIn : List Transaction → Nat
  | [] => 0
  | .write _ _ _ _ :: t => finalReadsIn t
  | .read1 _ _ :: t => finalReadsIn t
  | .read3 _ _ :: t => finalReadsIn t + 1
  | .read6 _ _ :: t => finalReadsIn t + 1
  | .delay _ :: t => finalReadsIn t

/-- The time a trace has taken at least, in the time base of `DELAY_UNIT` (R63, R180). -/
def leastTime (t : List Transaction) : Nat := delaysIn t * Config.delayUnit

/-- The trace is one of R184: empty after reset and after an invalid request, of a finished operation when idle, and the beginning
of one while busy; `PROBE_CNT` counts its probes and the one outstanding (R24). -/
structure TraceInv (s : State) : Prop where
  idle : s.seq = .idle → (s.status.done = false ∨ s.status.errKind = .invalidReq) → s.trace = []
  finished : s.seq = .idle → s.status.done = true → s.status.errKind ≠ .invalidReq → FinishedTrace s.opl s.trace
  running : s.seq ≠ .idle → s.trace = runningTrace s
  counted : s.probeCnt.toNat = probesIn s.trace + (if s.seq = .probe then 1 else 0)

/-! ### The length of an operation (spec/43_sequencer.md R181, R182) -/

/-- How many answers an operation can still need. -/
def answersLeft (s : State) : Nat :=
  match s.seq with
  | .idle => 0
  | .write => 42
  | .probe => 2 * (20 - s.probeCnt.toNat) + 3
  | .delay => 2 * (20 - s.probeCnt.toNat) + 2
  | .read6 => 1
  | .read3 => 1

/-- The input that answers the outstanding transaction: a return of the delay, or an answer of the transport. -/
def answerInput (s : State) (a : Bool × RData) : Input :=
  match s.seq with
  | .idle => .tpDone a.1 a.2
  | .write => .tpDone a.1 a.2
  | .probe => .tpDone a.1 a.2
  | .delay => .dlDone
  | .read6 => .tpDone a.1 a.2
  | .read3 => .tpDone a.1 a.2

/-- Answer every transaction of a running operation with the given answers, in order, until it ends or they run out. -/
def drive : List (Bool × RData) → State → Host.Outcome State Fault Refusal
  | [], s => .next s
  | a :: as, s =>
    if s.seq = .idle then .next s
    else
      match step { s with inputs := [answerInput s a] } with
      | .next t => drive as t
      | .fault r => .fault r
      | .refused r => .refused r

/-! ### Results of a whole MEASURE (spec/43_sequencer.md R183) -/

/-- The answers to `n` failed probes, each with its delay; `probes` are the ignored bytes. -/
def failedProbes (probes : List RData) : List Input :=
  probes.flatMap fun d => [.tpDone false d, .dlDone]

/-- Both fields of a measurement reply pass their checks. -/
def framePasses (r : Reply) : Bool := validate [r.b0, r.b1] r.b2 && validate [r.b3, r.b4] r.b5

/-- The failure kind of a MEASURE whose command write succeeded (R183). -/
def measureErr (okRead : Bool) (r : Reply) : ErrKind :=
  if okRead then (if framePasses r then .none else .crcMismatch) else .readFailed

/-- The big-step result of a MEASURE whose command write succeeded (R183): `t` is its last state, `okRead` and `d` the answer of
the final read, `hit` and `n` the probe diagnostics. -/
structure MeasureResult (t : State) (okRead : Bool) (d : RData) (hit : Bool) (n : Nat) : Prop where
  idle : t.seq = .idle
  status : t.status =
    { busy := false
      done := true
      ok := okRead && framePasses (replyOf d)
      measValid := okRead && framePasses (replyOf d)
      probeHit := hit
      errKind := measureErr okRead (replyOf d) }
  count : t.probeCnt.toNat = n
  pass : (okRead && framePasses (replyOf d)) = true →
    t.tRaw = be16 (rdataByte d 0) (rdataByte d 1) ∧ t.rhRaw = be16 (rdataByte d 3) (rdataByte d 4) ∧
      t.temp = f32 (175 * (t.tRaw.toNat : Int) - 2949120) ∧ t.rh = f32 (100 * (t.rhRaw.toNat : Int))
  fail : (okRead && framePasses (replyOf d)) = false →
    t.tRaw = 0#16 ∧ t.rhRaw = 0#16 ∧ t.temp = 0#32 ∧ t.rh = 0#32

/-- The final read of a trace: its bytes when it succeeded. -/
def finalRead6 (a : Byte) (okRead : Bool) (d : RData) : Transaction :=
  .read6 a (if okRead then some (replyOf d) else none)

/-! ### What a binary32 pattern denotes (spec/44_unit_converter.md R202) -/

/-- The value of a normal binary32 pattern, or of zero, times 2^149: an integer. Subnormals, infinities and NaN have none here. -/
def f32Scaled (p : Word32) : Option Int :=
  let e := (p.extractLsb' 23 8).toNat
  let f := (p.extractLsb' 0 23).toNat
  if e = 0 ∧ f = 0 then some 0
  else if e = 0 ∨ e = 255 then none
  else
    let m : Int := ((2 ^ 23 + f) * 2 ^ (e - 1) : Nat)
    some (if p.getLsbD 31 then -m else m)

/-! ### Polynomials over GF(2), as bits (spec/40_checksum.md R120, R128) -/

/-- The byte table of spec/95_test_vectors.md section 2.4, row by row (R126). -/
def crcTable : List Byte :=
  [0x00#8, 0x31#8, 0x62#8, 0x53#8, 0xC4#8, 0xF5#8, 0xA6#8, 0x97#8, 0xB9#8, 0x88#8, 0xDB#8, 0xEA#8, 0x7D#8, 0x4C#8, 0x1F#8, 0x2E#8] ++
  [0x43#8, 0x72#8, 0x21#8, 0x10#8, 0x87#8, 0xB6#8, 0xE5#8, 0xD4#8, 0xFA#8, 0xCB#8, 0x98#8, 0xA9#8, 0x3E#8, 0x0F#8, 0x5C#8, 0x6D#8] ++
  [0x86#8, 0xB7#8, 0xE4#8, 0xD5#8, 0x42#8, 0x73#8, 0x20#8, 0x11#8, 0x3F#8, 0x0E#8, 0x5D#8, 0x6C#8, 0xFB#8, 0xCA#8, 0x99#8, 0xA8#8] ++
  [0xC5#8, 0xF4#8, 0xA7#8, 0x96#8, 0x01#8, 0x30#8, 0x63#8, 0x52#8, 0x7C#8, 0x4D#8, 0x1E#8, 0x2F#8, 0xB8#8, 0x89#8, 0xDA#8, 0xEB#8] ++
  [0x3D#8, 0x0C#8, 0x5F#8, 0x6E#8, 0xF9#8, 0xC8#8, 0x9B#8, 0xAA#8, 0x84#8, 0xB5#8, 0xE6#8, 0xD7#8, 0x40#8, 0x71#8, 0x22#8, 0x13#8] ++
  [0x7E#8, 0x4F#8, 0x1C#8, 0x2D#8, 0xBA#8, 0x8B#8, 0xD8#8, 0xE9#8, 0xC7#8, 0xF6#8, 0xA5#8, 0x94#8, 0x03#8, 0x32#8, 0x61#8, 0x50#8] ++
  [0xBB#8, 0x8A#8, 0xD9#8, 0xE8#8, 0x7F#8, 0x4E#8, 0x1D#8, 0x2C#8, 0x02#8, 0x33#8, 0x60#8, 0x51#8, 0xC6#8, 0xF7#8, 0xA4#8, 0x95#8] ++
  [0xF8#8, 0xC9#8, 0x9A#8, 0xAB#8, 0x3C#8, 0x0D#8, 0x5E#8, 0x6F#8, 0x41#8, 0x70#8, 0x23#8, 0x12#8, 0x85#8, 0xB4#8, 0xE7#8, 0xD6#8] ++
  [0x7A#8, 0x4B#8, 0x18#8, 0x29#8, 0xBE#8, 0x8F#8, 0xDC#8, 0xED#8, 0xC3#8, 0xF2#8, 0xA1#8, 0x90#8, 0x07#8, 0x36#8, 0x65#8, 0x54#8] ++
  [0x39#8, 0x08#8, 0x5B#8, 0x6A#8, 0xFD#8, 0xCC#8, 0x9F#8, 0xAE#8, 0x80#8, 0xB1#8, 0xE2#8, 0xD3#8, 0x44#8, 0x75#8, 0x26#8, 0x17#8] ++
  [0xFC#8, 0xCD#8, 0x9E#8, 0xAF#8, 0x38#8, 0x09#8, 0x5A#8, 0x6B#8, 0x45#8, 0x74#8, 0x27#8, 0x16#8, 0x81#8, 0xB0#8, 0xE3#8, 0xD2#8] ++
  [0xBF#8, 0x8E#8, 0xDD#8, 0xEC#8, 0x7B#8, 0x4A#8, 0x19#8, 0x28#8, 0x06#8, 0x37#8, 0x64#8, 0x55#8, 0xC2#8, 0xF3#8, 0xA0#8, 0x91#8] ++
  [0x47#8, 0x76#8, 0x25#8, 0x14#8, 0x83#8, 0xB2#8, 0xE1#8, 0xD0#8, 0xFE#8, 0xCF#8, 0x9C#8, 0xAD#8, 0x3A#8, 0x0B#8, 0x58#8, 0x69#8] ++
  [0x04#8, 0x35#8, 0x66#8, 0x57#8, 0xC0#8, 0xF1#8, 0xA2#8, 0x93#8, 0xBD#8, 0x8C#8, 0xDF#8, 0xEE#8, 0x79#8, 0x48#8, 0x1B#8, 0x2A#8] ++
  [0xC1#8, 0xF0#8, 0xA3#8, 0x92#8, 0x05#8, 0x34#8, 0x67#8, 0x56#8, 0x78#8, 0x49#8, 0x1A#8, 0x2B#8, 0xBC#8, 0x8D#8, 0xDE#8, 0xEF#8] ++
  [0x82#8, 0xB3#8, 0xE0#8, 0xD1#8, 0x46#8, 0x77#8, 0x24#8, 0x15#8, 0x3B#8, 0x0A#8, 0x59#8, 0x68#8, 0xFF#8, 0xCE#8, 0x9D#8, 0xAC#8]

/-- The bits of a byte, bit 7 first. -/
def bitsOf (b : Byte) : List Bool :=
  [b.getLsbD 7, b.getLsbD 6, b.getLsbD 5, b.getLsbD 4, b.getLsbD 3, b.getLsbD 2, b.getLsbD 1, b.getLsbD 0]

/-- One line of long division by x^8 + x^5 + x^4 + 1: bring down a bit, and subtract 0x131 when the x^8 term is set. -/
def divideBit (r : Byte) (b : Bool) : Byte :=
  let v : BitVec 9 := r ++ BitVec.ofBool b
  (if v.getLsbD 8 then v ^^^ 0x131#9 else v).setWidth 8

/-- The remainder of a polynomial, highest coefficient first, by 0x131. -/
def polyRemainder (bits : List Bool) : Byte := bits.foldl divideBit 0#8

/-- The product of a polynomial of degree at most 7 and 0x131, below 2^16. -/
def polyMultiple (m : Byte) : Raw16 :=
  (List.range 8).foldl (fun acc i => if m.getLsbD i then acc ^^^ (0x131#16 <<< i) else acc) 0#16

end Sys2Proof.Safety
end

