-- ==== Sys2Proof/Certificates/Slice0/Obligations.lean ====
section
/-! DEFINITION. The statements for the provers, in the order of OBLIGATIONS.json. -/

open Sys2Proof Sys2Proof.Machine Sys2Proof.Safety

/-! ### Encoding -/

/-- Decoding an encoded instruction gives it back, and over bytes of any length the decoder accepts nothing but encodings (R90, R93,
R94, R95). -/
def Obligations.DecodeAndEncodeAgree : Prop :=
  (∀ i : Instr, i.wellFormed = true → decode (encode i) = .instr i) ∧
  (∀ (bs : List Byte) (i : Instr), decode bs = .instr i → bs = encode i)

/-- The complete map of the 256 request words (R93). -/
def Obligations.RequestWordMap : Prop :=
  decode [0x01#8] = .instr .measureSN ∧ selectCommand (latchOf 0x01#8) = some ⟨0x7C#8, 0xA2#8⟩ ∧
  decode [0x09#8] = .instr .measurePN ∧ selectCommand (latchOf 0x09#8) = some ⟨0x78#8, 0x66#8⟩ ∧
  decode [0x11#8] = .instr .measureSL ∧ selectCommand (latchOf 0x11#8) = some ⟨0x64#8, 0x58#8⟩ ∧
  decode [0x19#8] = .instr .measurePL ∧ selectCommand (latchOf 0x19#8) = some ⟨0x60#8, 0x9C#8⟩ ∧
  decode [0x02#8] = .instr .isPresent ∧ selectCommand (latchOf 0x02#8) = some ⟨0xEF#8, 0xC8#8⟩ ∧
  decode [0x03#8] = .instr .sleep ∧ selectCommand (latchOf 0x03#8) = some ⟨0xB0#8, 0x98#8⟩ ∧
  decode [0x04#8] = .instr .wake ∧ selectCommand (latchOf 0x04#8) = some ⟨0x35#8, 0x17#8⟩ ∧
  (∀ w : Byte, validRequest w = true ↔
    w ∈ [0x01#8, 0x09#8, 0x11#8, 0x19#8, 0x02#8, 0x03#8, 0x04#8]) ∧
  (∀ w : Byte, validRequest w = false ↔ ∃ e, decode [w] = .rejected e)

/-- The seven commands of the table, and no other pair of bytes, are commands (R95). -/
def Obligations.CommandTable : Prop :=
  decode [0xEF#8, 0xC8#8] = .instr .cmdGetId ∧ decode [0xB0#8, 0x98#8] = .instr .cmdSleep ∧
  decode [0x35#8, 0x17#8] = .instr .cmdWake ∧ decode [0x78#8, 0x66#8] = .instr .cmdMeasNormalPolled ∧
  decode [0x7C#8, 0xA2#8] = .instr .cmdMeasNormalStretched ∧
  decode [0x60#8, 0x9C#8] = .instr .cmdMeasLowPolled ∧
  decode [0x64#8, 0x58#8] = .instr .cmdMeasLowStretched ∧
  (∀ c0 c1 : Byte, (c0, c1) ∉ [(0xEF#8, 0xC8#8), (0xB0#8, 0x98#8), (0x35#8, 0x17#8), (0x78#8, 0x66#8),
      (0x7C#8, 0xA2#8), (0x60#8, 0x9C#8), (0x64#8, 0x58#8)] → decode [c0, c1] = .rejected .unknownCommand)

/-! ### The step -/

/-- While idle, a host write of `REQ` whose word decodes runs that instruction, past the input (R29, R161). -/
def Obligations.StepRunsTheDecodedRequest : Prop :=
  ∀ (s : State) (i : Instr) (data : Word32) (rest : List Input),
    s.seq = .idle → s.inputs = .hostWrite 0#3 data :: rest → decode [data.setWidth 8] = .instr i →
      step s = exec i { s with inputs := rest }

/-- The answer of a command write runs the command in `CMD`, which takes the answer itself (R61, R164). The model's choice of
how a wire command is fetched: log 3. -/
def Obligations.StepRunsTheDecodedCommand : Prop :=
  ∀ (s : State) (i : Instr) (ok : Bool) (d : RData) (rest : List Input),
    s.seq = .write → s.inputs = .tpDone ok d :: rest → decode [s.cmd.b0, s.cmd.b1] = .instr i →
      step s = exec i s

/-- An invalid request is accepted and fails in the same step; nothing is issued (R94, R161, R162, R222).
`inputs` and `trace` are the model's own: logs 1 and 4. -/
def Obligations.InvalidRequestFailsAtOnce : Prop :=
  ∀ (s : State) (data : Word32) (rest : List Input),
    s.seq = .idle → s.inputs = .hostWrite 0#3 data :: rest → validRequest (data.setWidth 8) = false →
      step s = .next
        { s with
          inputs := rest
          opl := ⟨data.extractLsb' 0 3, timingOfBit (data.getLsbD 3), powerOfBit (data.getLsbD 4)⟩
          status := { busy := false, done := true, ok := false, measValid := false, probeHit := false,
                      errKind := .invalidReq }
          probeCnt := 0#5
          tRaw := 0#16
          rhRaw := 0#16
          temp := 0#32
          rh := 0#32
          trace := [] }

/-- A host write of `REQ` while an operation runs changes nothing, and neither does any of the seven host operations as an
instruction of a busy block (R160, R255). -/
def Obligations.BusyRequestIsDropped : Prop :=
  ∀ s : State, s.seq ≠ .idle →
    (∀ (data : Word32) (rest : List Input),
      s.inputs = .hostWrite 0#3 data :: rest → step s = .next { s with inputs := rest }) ∧
    exec .measureSN s = .next s ∧ exec .measurePN s = .next s ∧ exec .measureSL s = .next s ∧
    exec .measurePL s = .next s ∧ exec .isPresent s = .next s ∧ exec .sleep s = .next s ∧ exec .wake s = .next s

/-- A host write of a read-only register changes nothing (R33). -/
def Obligations.ReadOnlyWriteIsIgnored : Prop :=
  ∀ (s : State) (sel : BitVec 3) (data : Word32) (rest : List Input),
    s.inputs = .hostWrite sel data :: rest →
      sel = 1#3 ∨ sel = 3#3 ∨ sel = 4#3 ∨ sel = 5#3 ∨ sel = 6#3 ∨ sel = 7#3 →
        step s = .next { s with inputs := rest }

/-- A host read of any register has no side effect (R32). -/
def Obligations.HostReadChangesNothing : Prop :=
  ∀ (s : State) (sel : BitVec 3) (rest : List Input),
    s.inputs = .hostRead sel :: rest → step s = .next { s with inputs := rest }

/-- `DEV_ADDR` takes bits 7:0 while idle, and a write while busy is lost (R27, R258). -/
def Obligations.DeviceAddressWrite : Prop :=
  ∀ (s : State) (data : Word32) (rest : List Input), s.inputs = .hostWrite 2#3 data :: rest →
    (s.seq = .idle → step s = .next { s with devAddr := data.setWidth 8, inputs := rest }) ∧
    (s.seq ≠ .idle → step s = .next { s with inputs := rest })

/-- The host register map, read (R28, R29, R32). -/
def Obligations.RegisterMapReads : Prop :=
  ∀ s : State,
    hreg s 0#3 = (0#27 ++ BitVec.ofBool (powerBit s.opl.power) ++ BitVec.ofBool (timingBit s.opl.timing) ++ s.opl.op) ∧
    hreg s 1#3 = (0#24 ++ errCode s.status.errKind ++ BitVec.ofBool s.status.probeHit ++
      BitVec.ofBool s.status.measValid ++ BitVec.ofBool s.status.ok ++ BitVec.ofBool s.status.done ++
      BitVec.ofBool s.status.busy) ∧
    hreg s 2#3 = 0#24 ++ s.devAddr ∧ hreg s 3#3 = 0#27 ++ s.probeCnt ∧
    hreg s 4#3 = 0#16 ++ s.tRaw ∧ hreg s 5#3 = 0#16 ++ s.rhRaw ∧ hreg s 6#3 = s.temp ∧ hreg s 7#3 = s.rh

/-- Exactly one transaction is outstanding in a waiting state, none while idle, and what each asks for (R36, R69, R76, R77). -/
def Obligations.OutstandingTransaction : Prop :=
  ∀ s : State,
    (s.seq = .idle → tpPort s = none ∧ dlPort s = none) ∧
    (s.seq = .write → tpPort s = some ⟨false, s.devAddr, 2#3, some (s.cmd.b0 ++ s.cmd.b1)⟩ ∧ dlPort s = none) ∧
    (s.seq = .probe → tpPort s = some ⟨true, s.devAddr, 1#3, none⟩ ∧ dlPort s = none) ∧
    (s.seq = .delay → tpPort s = none ∧ dlPort s = some 1#8) ∧
    (s.seq = .read6 → tpPort s = some ⟨true, s.devAddr, 6#3, none⟩ ∧ dlPort s = none) ∧
    (s.seq = .read3 → tpPort s = some ⟨true, s.devAddr, 3#3, none⟩ ∧ dlPort s = none)

/-- Every register holds its reset value, in the machine's state after reset and after every step at which reset is asserted, in
whatever state; no transaction is outstanding (R38, R250, R251). Asserting it always has a next state. -/
def Obligations.ResetFromAnyState : Prop :=
  (∀ (s : State) (rest : List Input), s.inputs = .rst :: rest → ∃ t, step s = .next t) ∧
  ∀ t : State, (t = State.reset ∨ ∃ s rest, s.inputs = .rst :: rest ∧ step s = .next t) →
    t.seq = .idle ∧ t.opl = ⟨0#3, .stretched, .normal⟩ ∧ t.cmd = ⟨0#8, 0#8⟩ ∧
    t.rx = ⟨0#8, 0#8, 0#8, 0#8, 0#8, 0#8⟩ ∧ t.crc = 0xFF#8 ∧ t.probeCnt = 0#5 ∧ t.devAddr = 0x70#8 ∧
    statusByte t.status = 0x00#8 ∧ t.tRaw = 0#16 ∧ t.rhRaw = 0#16 ∧ t.temp = 0#32 ∧ t.rh = 0#32 ∧
    hreg t 0#3 = 0#32 ∧ tpPort t = none ∧ dlPort t = none

/-- What changes nothing: no input at all, whatever the block waits for (R75; the list of inputs is the model's: log 1), and an answer
for which no transaction is outstanding (R76 for the transport; for the delay, log 7). -/
def Obligations.NothingWithoutAnAnswer : Prop :=
  ∀ (s : State) (rest : List Input),
    (s.inputs = [] → step s = .next s) ∧
    (∀ ok d, s.inputs = .tpDone ok d :: rest → tpPort s = none → step s = .next { s with inputs := rest }) ∧
    (s.inputs = .dlDone :: rest → dlPort s = none → step s = .next { s with inputs := rest })

/-- The pseudo-operations (R103, R214): CONSTRUCT sets the address of an idle block and nothing else; DESTROY is nothing; WAIT reads
`STATUS` until `DONE` reads 1, and is over then. A poll changes no register. The model's choices: `inputs` (log 1); and that before
the next poll whatever comes next from outside goes ahead, the host's later accesses staying behind (log 18). -/
def Obligations.PseudoOperations : Prop :=
  (∀ (s : State) (addr : Byte) (rest : List Input), s.seq = .idle →
    s.inputs = expandPseudo (.construct addr) ++ rest →
      step s = .next { s with devAddr := addr, inputs := rest }) ∧
  expandPseudo .destroy = [] ∧
  (∀ s : State, waitOver s = (hreg s 1#3).getLsbD 1 ∧ waitOver s = s.status.done) ∧
  (∀ (s : State) (rest : List Input), s.inputs = expandPseudo .wait ++ rest →
    (waitOver s = true → step s = .next { s with inputs := rest }) ∧
    (waitOver s = false → (∀ a ∈ rest, isHostAccess a = true) → step s = .next s) ∧
    (waitOver s = false → ∀ (held later : List Input) (e : Input),
      rest = held ++ e :: later → (∀ a ∈ held, isHostAccess a = true) → isHostAccess e = false →
        step s = .next { s with inputs := e :: (expandPseudo .wait ++ (held ++ later)) }))

/-! ### The seven host operations -/

/-- The four MEASURE requests, accepted by an idle block: latch, cleared flags, counter and results, command loaded, command
write issued (R161, R163, R176 to R179).
`trace` is the model's own: log 4. -/
def Obligations.MeasureRequestsAccepted : Prop :=
  ∀ s : State, s.seq = .idle →
    exec .measureSN s = .next { s with
      seq := .write, opl := ⟨1#3, .stretched, .normal⟩, cmd := ⟨0x7C#8, 0xA2#8⟩, probeCnt := 0#5
      status := ⟨true, false, false, false, false, .none⟩
      tRaw := 0#16, rhRaw := 0#16, temp := 0#32, rh := 0#32, trace := [] } ∧
    exec .measurePN s = .next { s with
      seq := .write, opl := ⟨1#3, .polled, .normal⟩, cmd := ⟨0x78#8, 0x66#8⟩, probeCnt := 0#5
      status := ⟨true, false, false, false, false, .none⟩
      tRaw := 0#16, rhRaw := 0#16, temp := 0#32, rh := 0#32, trace := [] } ∧
    exec .measureSL s = .next { s with
      seq := .write, opl := ⟨1#3, .stretched, .low⟩, cmd := ⟨0x64#8, 0x58#8⟩, probeCnt := 0#5
      status := ⟨true, false, false, false, false, .none⟩
      tRaw := 0#16, rhRaw := 0#16, temp := 0#32, rh := 0#32, trace := [] } ∧
    exec .measurePL s = .next { s with
      seq := .write, opl := ⟨1#3, .polled, .low⟩, cmd := ⟨0x60#8, 0x9C#8⟩, probeCnt := 0#5
      status := ⟨true, false, false, false, false, .none⟩
      tRaw := 0#16, rhRaw := 0#16, temp := 0#32, rh := 0#32, trace := [] }

/-- IS_PRESENT, SLEEP and WAKE, accepted by an idle block (R161, R163, R210 to R212).
`trace` is the model's own: log 4. -/
def Obligations.PeripheralRequestsAccepted : Prop :=
  ∀ s : State, s.seq = .idle →
    exec .isPresent s = .next { s with
      seq := .write, opl := ⟨2#3, .stretched, .normal⟩, cmd := ⟨0xEF#8, 0xC8#8⟩, probeCnt := 0#5
      status := ⟨true, false, false, false, false, .none⟩
      tRaw := 0#16, rhRaw := 0#16, temp := 0#32, rh := 0#32, trace := [] } ∧
    exec .sleep s = .next { s with
      seq := .write, opl := ⟨3#3, .stretched, .normal⟩, cmd := ⟨0xB0#8, 0x98#8⟩, probeCnt := 0#5
      status := ⟨true, false, false, false, false, .none⟩
      tRaw := 0#16, rhRaw := 0#16, temp := 0#32, rh := 0#32, trace := [] } ∧
    exec .wake s = .next { s with
      seq := .write, opl := ⟨4#3, .stretched, .normal⟩, cmd := ⟨0x35#8, 0x17#8⟩, probeCnt := 0#5
      status := ⟨true, false, false, false, false, .none⟩
      tRaw := 0#16, rhRaw := 0#16, temp := 0#32, rh := 0#32, trace := [] }

/-! ### The seven wire commands -/

/-- The two Stretched measurement commands, written with success: the 6-byte read is issued at once (R164, R165, row T6).
`inputs` and `trace` are the model's own: logs 1 and 4. -/
def Obligations.StretchedCommandsWritten : Prop :=
  ∀ (s : State) (d : RData) (rest : List Input),
    s.seq = .write → s.inputs = .tpDone true d :: rest → s.opl.op = 1#3 → s.opl.timing = .stretched →
      (s.cmd = ⟨0x7C#8, 0xA2#8⟩ → exec .cmdMeasNormalStretched s = .next { s with
        seq := .read6, inputs := rest, trace := s.trace ++ [.write s.devAddr 0x7C#8 0xA2#8 true] }) ∧
      (s.cmd = ⟨0x64#8, 0x58#8⟩ → exec .cmdMeasLowStretched s = .next { s with
        seq := .read6, inputs := rest, trace := s.trace ++ [.write s.devAddr 0x64#8 0x58#8 true] })

/-- The two Polled measurement commands, written with success: the first probe is issued (R164, R166, row T7).
`inputs` and `trace` are the model's own: logs 1 and 4. -/
def Obligations.PolledCommandsWritten : Prop :=
  ∀ (s : State) (d : RData) (rest : List Input),
    s.seq = .write → s.inputs = .tpDone true d :: rest → s.opl.op = 1#3 → s.opl.timing = .polled →
      (s.cmd = ⟨0x78#8, 0x66#8⟩ → exec .cmdMeasNormalPolled s = .next { s with
        seq := .probe, probeCnt := 1#5, inputs := rest,
        trace := s.trace ++ [.write s.devAddr 0x78#8 0x66#8 true] }) ∧
      (s.cmd = ⟨0x60#8, 0x9C#8⟩ → exec .cmdMeasLowPolled s = .next { s with
        seq := .probe, probeCnt := 1#5, inputs := rest,
        trace := s.trace ++ [.write s.devAddr 0x60#8 0x9C#8 true] })

/-- The Get ID command, written with success: the 3-byte read is issued (R164, row T5).
`inputs` and `trace` are the model's own: logs 1 and 4. -/
def Obligations.GetIdCommandWritten : Prop :=
  ∀ (s : State) (d : RData) (rest : List Input),
    s.seq = .write → s.inputs = .tpDone true d :: rest → s.opl.op = 2#3 → s.cmd = ⟨0xEF#8, 0xC8#8⟩ →
      exec .cmdGetId s = .next { s with
        seq := .read3, inputs := rest, trace := s.trace ++ [.write s.devAddr 0xEF#8 0xC8#8 true] }

/-- The Sleep and Wake commands, written with success, complete their operation with a pass (R164, R173, R211, R212, row T4).
`inputs` and `trace` are the model's own: logs 1 and 4. -/
def Obligations.SleepWakeCommandsWritten : Prop :=
  ∀ (s : State) (d : RData) (rest : List Input), s.seq = .write → s.inputs = .tpDone true d :: rest →
    (s.opl.op = 3#3 → s.cmd = ⟨0xB0#8, 0x98#8⟩ → exec .cmdSleep s = .next { s with
      seq := .idle, inputs := rest, trace := s.trace ++ [.write s.devAddr 0xB0#8 0x98#8 true]
      status := { s.status with busy := false, done := true, ok := true, errKind := .none } }) ∧
    (s.opl.op = 4#3 → s.cmd = ⟨0x35#8, 0x17#8⟩ → exec .cmdWake s = .next { s with
      seq := .idle, inputs := rest, trace := s.trace ++ [.write s.devAddr 0x35#8 0x17#8 true]
      status := { s.status with busy := false, done := true, ok := true, errKind := .none } })

/-- A failed command write ends any operation with WRITE_FAILED; no read, probe or delay follows (R164, R223, row T3).
`inputs` and `trace` are the model's own: logs 1 and 4. -/
def Obligations.FailedCommandWrites : Prop :=
  ∀ (s : State) (d : RData) (rest : List Input) (i : Instr) (c0 c1 : Byte),
    (i, c0, c1) ∈ [(Instr.cmdGetId, 0xEF#8, 0xC8#8), (.cmdSleep, 0xB0#8, 0x98#8), (.cmdWake, 0x35#8, 0x17#8),
      (.cmdMeasNormalPolled, 0x78#8, 0x66#8), (.cmdMeasNormalStretched, 0x7C#8, 0xA2#8),
      (.cmdMeasLowPolled, 0x60#8, 0x9C#8), (.cmdMeasLowStretched, 0x64#8, 0x58#8)] →
    s.seq = .write → s.cmd = ⟨c0, c1⟩ → s.inputs = .tpDone false d :: rest →
      exec i s = .next { s with
        seq := .idle, inputs := rest, trace := s.trace ++ [.write s.devAddr c0 c1 false]
        status := { s.status with busy := false, done := true, ok := false, errKind := .writeFailed,
                                  measValid := false } }

/-- A wire command has no effect while its write is unanswered, and none where no command write of its bytes is outstanding
(R70, R75; the model's choice: log 3). -/
def Obligations.CommandsNotAnswered : Prop :=
  ∀ (s : State) (i : Instr) (c0 c1 : Byte),
    (i, c0, c1) ∈ [(Instr.cmdGetId, 0xEF#8, 0xC8#8), (.cmdSleep, 0xB0#8, 0x98#8), (.cmdWake, 0x35#8, 0x17#8),
      (.cmdMeasNormalPolled, 0x78#8, 0x66#8), (.cmdMeasNormalStretched, 0x7C#8, 0xA2#8),
      (.cmdMeasLowPolled, 0x60#8, 0x9C#8), (.cmdMeasLowStretched, 0x64#8, 0x58#8)] →
    ((s.seq = .write ∧ s.cmd = ⟨c0, c1⟩ ∧ ∀ ok d rest, s.inputs ≠ .tpDone ok d :: rest) ∨
      s.seq ≠ .write ∨ s.cmd ≠ ⟨c0, c1⟩) →
      exec i s = .next s

/-! ### The sequencer's answers -/

/-- A probe that succeeds (R167).
`inputs` and `trace` are the model's own: logs 1 and 4. -/
def Obligations.ProbeSucceeded : Prop :=
  ∀ (s : State) (d : RData) (rest : List Input), s.seq = .probe → s.inputs = .tpDone true d :: rest →
    ∃ t, step s = .next t ∧
      t = { s with
        seq := .read6, inputs := rest, status := { s.status with probeHit := true }
        trace := s.trace ++ [.read1 s.devAddr true] } ∧
      tpPort t = some ⟨true, s.devAddr, 6#3, none⟩ ∧ dlPort t = none

/-- A probe that fails, the twentieth too, is followed by a delay of one unit (R168, row T9).
`inputs` and `trace` are the model's own: logs 1 and 4. -/
def Obligations.ProbeFailed : Prop :=
  ∀ (s : State) (d : RData) (rest : List Input), s.seq = .probe → s.inputs = .tpDone false d :: rest →
    ∃ t, step s = .next t ∧
      t = { s with seq := .delay, inputs := rest, trace := s.trace ++ [.read1 s.devAddr false] } ∧
      tpPort t = none ∧ dlPort t = some 1#8

/-- A delay that returns (R169): the next probe, or after the twentieth the final read.
`inputs` and `trace` are the model's own: logs 1 and 4. -/
def Obligations.DelayReturned : Prop :=
  ∀ (s : State) (rest : List Input), s.seq = .delay → s.inputs = .dlDone :: rest →
    ∃ t, step s = .next t ∧ dlPort t = none ∧
      (if s.probeCnt.toNat < 20 then
        t = { s with
          seq := .probe, probeCnt := s.probeCnt + 1#5, inputs := rest, trace := s.trace ++ [.delay 1#8] } ∧
        tpPort t = some ⟨true, s.devAddr, 1#3, none⟩
      else
        t = { s with seq := .read6, inputs := rest, trace := s.trace ++ [.delay 1#8] } ∧
        tpPort t = some ⟨true, s.devAddr, 6#3, none⟩)

/-- A failed final read, of 6 or of 3 bytes, fails the operation and is not retried (R171). The bytes it leaves in `RX` are
unspecified (R23): nothing is said of them.
`inputs`, `trace` and `draws` are the model's own: logs 1, 4 and 5. -/
def Obligations.FinalReadFailed : Prop :=
  ∀ (s : State) (d : RData) (rest : List Input), s.inputs = .tpDone false d :: rest →
    (s.seq = .read6 → ∃ rx n, step s = .next { s with
      seq := .idle, inputs := rest, rx := rx, draws := n, trace := s.trace ++ [.read6 s.devAddr none]
      status := { s.status with busy := false, done := true, ok := false, errKind := .readFailed,
                                measValid := false } }) ∧
    (s.seq = .read3 → ∃ rx n, step s = .next { s with
      seq := .idle, inputs := rest, rx := rx, draws := n, trace := s.trace ++ [.read3 s.devAddr none]
      status := { s.status with busy := false, done := true, ok := false, errKind := .readFailed,
                                measValid := false } })

/-- A 6-byte reply whose two fields pass becomes the Measurement, in one step (R172, R173, row T13).
`inputs` and `trace` are the model's own: logs 1 and 4. -/
def Obligations.MeasurementCommitted : Prop :=
  ∀ (s : State) (d : RData) (rest : List Input), s.seq = .read6 → s.inputs = .tpDone true d :: rest →
    crc8 [rdataByte d 0, rdataByte d 1] = rdataByte d 2 → crc8 [rdataByte d 3, rdataByte d 4] = rdataByte d 5 →
      step s = .next { s with
        seq := .idle, inputs := rest, rx := replyOf d, crc := rdataByte d 5
        tRaw := rdataByte d 0 ++ rdataByte d 1, rhRaw := rdataByte d 3 ++ rdataByte d 4
        temp := f32 (175 * ((rdataByte d 0 ++ rdataByte d 1).toNat : Int) - 2949120)
        rh := f32 (100 * ((rdataByte d 3 ++ rdataByte d 4).toNat : Int))
        trace := s.trace ++ [.read6 s.devAddr (some (replyOf d))]
        status := { s.status with busy := false, done := true, ok := true, errKind := .none, measValid := true } }

/-- A 6-byte reply with a field that does not pass fails the operation, and the result registers are not written (R172, R225,
row T14). `CRC` is left with the checksum of the one field or of the other: whether the second check runs after a first failure is
open (R172), and a free value of the model (log 6).
`inputs` and `trace` are the model's own: logs 1 and 4. -/
def Obligations.MeasurementRejected : Prop :=
  ∀ (s : State) (d : RData) (rest : List Input), s.seq = .read6 → s.inputs = .tpDone true d :: rest →
    (crc8 [rdataByte d 0, rdataByte d 1] ≠ rdataByte d 2 ∨ crc8 [rdataByte d 3, rdataByte d 4] ≠ rdataByte d 5) →
      ∃ c, (c = crc8 [rdataByte d 0, rdataByte d 1] ∨ c = crc8 [rdataByte d 3, rdataByte d 4]) ∧ step s = .next { s with
        seq := .idle, inputs := rest, rx := replyOf d, crc := c
        trace := s.trace ++ [.read6 s.devAddr (some (replyOf d))]
        status := { s.status with busy := false, done := true, ok := false, errKind := .crcMismatch,
                                  measValid := false } }

/-- A 3-byte reply passes if and only if its checksum matches; the ID is compared with nothing, and `RX[3..5]` stay (R141, R210,
rows T16 and T17).
`inputs` and `trace` are the model's own: logs 1 and 4. -/
def Obligations.PresenceReplyChecked : Prop :=
  ∀ (s : State) (d : RData) (rest : List Input), s.seq = .read3 → s.inputs = .tpDone true d :: rest →
    step s = .next { s with
      seq := .idle, inputs := rest, crc := crc8 [rdataByte d 0, rdataByte d 1]
      rx := { s.rx with b0 := rdataByte d 0, b1 := rdataByte d 1, b2 := rdataByte d 2 }
      trace := s.trace ++ [.read3 s.devAddr (some (rdataByte d 0, rdataByte d 1, rdataByte d 2))]
      status :=
        if crc8 [rdataByte d 0, rdataByte d 1] = rdataByte d 2 then
          { s.status with busy := false, done := true, ok := true, errKind := .none }
        else
          { s.status with busy := false, done := true, ok := false, errKind := .crcMismatch, measValid := false } }

/-- `raise Fail(kind)` and `complete Pass`, whole, as the model's one operation of each (R173, R229). -/
def Obligations.EndOfOperation : Prop :=
  (∀ (kind : ErrKind) (s : State), raiseFail kind s = { s with
    seq := .idle
    status := { s.status with busy := false, done := true, ok := false, errKind := kind, measValid := false } }) ∧
  (∀ s : State, completePass s = { s with
    seq := .idle, status := { s.status with busy := false, done := true, ok := true, errKind := .none } })

/-! ### The checksum validator -/

/-- One shift step, with the 9-bit polynomial as well, and the corner cases (R121). -/
def Obligations.CrcBitStep : Prop :=
  (∀ c : Byte, crcBit c =
    if c.getLsbD 7 = true then (((c.setWidth 9) <<< 1) ^^^ 0x131#9).setWidth 8 else c <<< 1) ∧
  (∀ c : Byte, c.getLsbD 7 = true → crcBit c = (c <<< 1) ^^^ 0x31#8) ∧
  crcBit 0x00#8 = 0x00#8 ∧ crcBit 0x80#8 = 0x31#8 ∧ crcBit 0xFF#8 = 0xCF#8 ∧ crcBit 0x41#8 = 0x82#8

/-- The printed byte table is the byte step, and the step depends on the exclusive-or alone (R122, R126). -/
def Obligations.CrcByteTable : Prop :=
  ∀ c b : Byte, some (crcByte c b) = crcTable[(c ^^^ b).toNat]?

/-- A field check on the `CRC` register is the pure validator of its two bytes, whatever the register held (R21, R124, R126). -/
def Obligations.FieldCheckIsValidate : Prop :=
  ∀ (f : ReplyField) (s : State),
    checkField f s = { s with crc := crc8 [f.hi, f.lo] } ∧
    fieldPasses f s = validate [f.hi, f.lo] f.sum ∧
    (validate [f.hi, f.lo] f.sum = true ↔ crc8 [f.hi, f.lo] = f.sum)

/-- The checksum is linear over exclusive-or (R128, item 1). -/
def Obligations.CrcLinear : Prop :=
  (∀ c1 c2 b1 b2 : Byte, crcByte (c1 ^^^ c2) (b1 ^^^ b2) = crcByte c1 b1 ^^^ crcByte c2 b2) ∧
  (∀ m e : List Byte, m.length = e.length →
    crc8 (List.zipWith (fun a b => a ^^^ b) m e) = crc8 m ^^^ crc0 e)

/-- A span followed by its checksum has residue zero (R128, item 2). -/
def Obligations.CrcZeroResidue : Prop :=
  ∀ span : List Byte, crc8 (span ++ [crc8 span]) = 0#8 ∧
    ∀ e : Byte, validate span e = true ↔ crc8 (span ++ [e]) = 0#8

/-- A change of any one bit of a two-byte field changes its checksum, always, by its syndrome (R128, item 3). -/
def Obligations.SingleBitErrorsDetected : Prop :=
  (∀ (hi lo : Byte) (i : Nat), i < 8 → crc8 [hi ^^^ (1#8 <<< i), lo] ≠ crc8 [hi, lo] ∧
    crc8 [hi, lo ^^^ (1#8 <<< i)] ≠ crc8 [hi, lo]) ∧
  ((List.range 8).map fun i => crc0 [0x80#8 >>> i, 0#8]) =
    [0x23#8, 0x89#8, 0xDC#8, 0x6E#8, 0x37#8, 0x83#8, 0xD9#8, 0xF4#8] ∧
  ((List.range 8).map fun i => crc0 [0#8, 0x80#8 >>> i]) =
    [0x7A#8, 0x3D#8, 0x86#8, 0x43#8, 0xB9#8, 0xC4#8, 0x62#8, 0x31#8]

/-- The errors on two data bytes that leave the checksum unchanged are exactly the multiples of the polynomial (R128, item 4). -/
def Obligations.UndetectedErrors : Prop :=
  ∀ hi lo e1 e2 : Byte,
    crc8 [hi ^^^ e1, lo ^^^ e2] = crc8 [hi, lo] ↔ ∃ m : Byte, e1 ++ e2 = polyMultiple m

/-- Every error burst confined to eight consecutive bits of a field and its checksum is detected (R128, item 4). -/
def Obligations.BurstErrorsDetected : Prop :=
  ∀ (hi lo : Byte) (p : Byte) (k : Nat), p ≠ 0#8 → k ≤ 16 →
    let e : BitVec 24 := p.setWidth 24 <<< k
    validate [hi ^^^ e.extractLsb' 16 8, lo ^^^ e.extractLsb' 8 8] (crc8 [hi, lo] ^^^ e.extractLsb' 0 8) = false

/-- The checksum of a span is the remainder, by long division over GF(2), of the span with the initial value added to its first
byte and eight zero bits after it (R120). -/
def Obligations.CrcIsPolynomialRemainder : Prop :=
  ∀ (b : Byte) (bs : List Byte),
    crc8 (b :: bs) =
      polyRemainder (bitsOf (b ^^^ 0xFF#8) ++ bs.flatMap bitsOf ++ List.replicate 8 false)

/-! ### The unit converter -/

/-- `f32` is exact: the pattern of every numerator below 2^24 denotes that numerator over 65536, and so the Measurement's two patterns
denote the two formulas exactly for every raw value (R200, R201, R202). -/
def Obligations.FloatPatternExact : Prop :=
  (∀ n : Int, n.natAbs < 2 ^ 24 → f32Scaled (f32 n) = some (n * 2 ^ 133)) ∧
  (∀ raw : Raw16,
    f32Scaled (tempPattern raw) = some ((175 * (raw.toNat : Int) - 2949120) * 2 ^ 133) ∧
    f32Scaled (rhPattern raw) = some (100 * (raw.toNat : Int) * 2 ^ 133))

/-- Both conversions are strictly increasing, and the stored patterns still tell the raw values apart (R204). -/
def Obligations.ConversionInjective : Prop :=
  (∀ x y : Raw16, x < y → convT x < convT y ∧ convRH x < convRH y) ∧
  (∀ x y : Raw16, tempPattern x = tempPattern y → x = y) ∧
  (∀ x y : Raw16, rhPattern x = rhPattern y → x = y)

/-! ### The whole machine -/

/-- The state after reset meets every invariant. -/
def Obligations.ResetMeetsInvariants : Prop := ControlInv State.reset ∧ TraceInv State.reset

/-- Every step keeps the invariants of the registers (R24, R25, R28, R31, R127, R152). -/
def Obligations.StepKeepsControl : Prop :=
  ∀ s t : State, ControlInv s → step s = .next t → ControlInv t

/-- Every step keeps the trace within the grammar of R184, and `PROBE_CNT` the number of probes issued (R24, R184).
`trace` is the model's own: log 4. -/
def Obligations.StepKeepsTrace : Prop :=
  ∀ s t : State, ControlInv s → TraceInv s → step s = .next t → TraceInv t

/-- Under the invariants a step never stops: every input has a next state. -/
def Obligations.SequencerNeverStuck : Prop :=
  ∀ s : State, ControlInv s → ∃ t, step s = .next t

/-- `STATUS` reads one of twelve values (R104). -/
def Obligations.StatusValues : Prop :=
  ∀ s : State, ControlInv s →
    statusByte s.status ∈ [0x00#8, 0x01#8, 0x11#8, 0x06#8, 0x0E#8, 0x1E#8, 0x22#8, 0x42#8, 0x62#8, 0x72#8,
      0x82#8, 0x92#8]

/-- The validation gate: the only step that makes a Measurement valid is the answer of the 6-byte read, with success and with both
fields passing their checks on the bytes of that read; and a step that changes a result register either clears all four without a
Measurement or is that one (R30, R31, R127, R203). -/
def Obligations.ValidationGate : Prop :=
  ∀ s t : State, step s = .next t →
    (s.status.measValid = false → t.status.measValid = true →
      s.seq = .read6 ∧ ∃ d rest, s.inputs = .tpDone true d :: rest ∧
        validate [rdataByte d 0, rdataByte d 1] (rdataByte d 2) = true ∧
        validate [rdataByte d 3, rdataByte d 4] (rdataByte d 5) = true) ∧
    ((t.tRaw = s.tRaw ∧ t.rhRaw = s.rhRaw ∧ t.temp = s.temp ∧ t.rh = s.rh) ∨
      (t.tRaw = 0#16 ∧ t.rhRaw = 0#16 ∧ t.temp = 0#32 ∧ t.rh = 0#32 ∧ t.status.measValid = false) ∨
      (s.seq = .read6 ∧ t.status.measValid = true))

/-- The outcome of a MEASURE depends on the answer of the final read alone: not on the address, the modes, the probes or any
earlier operation (R183, R203). -/
def Obligations.ResultDependsOnReplyAlone : Prop :=
  ∀ (s1 s2 t1 t2 : State) (ok : Bool) (d : RData) (r1 r2 : List Input),
    ControlInv s1 → ControlInv s2 → s1.seq = .read6 → s2.seq = .read6 →
    s1.inputs = .tpDone ok d :: r1 → s2.inputs = .tpDone ok d :: r2 → step s1 = .next t1 → step s2 = .next t2 →
      t1.status.ok = t2.status.ok ∧ t1.status.measValid = t2.status.measValid ∧
      t1.status.errKind = t2.status.errKind ∧ t1.tRaw = t2.tRaw ∧ t1.rhRaw = t2.rhRaw ∧
      t1.temp = t2.temp ∧ t1.rh = t2.rh

/-- While an operation runs on, its address, its latch and its command do not change (R26, R74). -/
def Obligations.OperationInputsStable : Prop :=
  ∀ s t : State, step s = .next t → s.seq ≠ .idle → t.seq ≠ .idle →
    t.devAddr = s.devAddr ∧ t.opl = s.opl ∧ t.cmd = s.cmd

/-- The transaction counts of a finished operation, and its length (R181). -/
def Obligations.TransactionCounts : Prop :=
  ∀ (l : Latch) (t : List Transaction), FinishedTrace l t →
    writesIn t = 1 ∧ finalReadsIn t ≤ 1 ∧ delaysIn t ≤ probesIn t ∧ probesIn t ≤ 20 ∧ t.length ≤ 42 ∧
    t.length = writesIn t + probesIn t + delaysIn t + finalReadsIn t ∧
    (l.op ≠ 1#3 ∨ l.timing = .stretched → probesIn t = 0 ∧ delaysIn t = 0) ∧
    (probesIn t ≠ 0 → finalReadsIn t = 1 ∧ (delaysIn t + 1 = probesIn t ∨ (probesIn t = 20 ∧ delaysIn t = 20)))

/-- When the probe loop is exhausted, at least 20 delay units have passed before the final read (R180).
`trace` is the model's own: log 4. -/
def Obligations.ExhaustionTakesTwentyDelays : Prop :=
  ∀ s : State, ControlInv s → TraceInv s → s.seq = .read6 → s.opl.timing = .polled →
    s.status.probeHit = false → delaysIn s.trace = 20 ∧ 20 * Config.delayUnit ≤ leastTime s.trace

/-- Every answer to the outstanding transaction ends the operation or leaves fewer answers to come (R182). -/
def Obligations.AnswersAlwaysProgress : Prop :=
  ∀ (s t : State) (a : Bool × RData) (rest : List Input), ControlInv s → s.seq ≠ .idle →
    s.inputs = answerInput s a :: rest → step s = .next t →
      t.inputs = rest ∧ answersLeft t < answersLeft s ∧ answersLeft s ≤ 42

/-- Every operation whose transactions are all answered ends after at most 42 of them, whatever the answers (R182). -/
def Obligations.OperationsEnd : Prop :=
  ∀ (s : State) (answers : List (Bool × RData)), ControlInv s → s.seq ≠ .idle → answers.length = 42 →
    ∃ t, drive answers s = .next t ∧ t.seq = .idle ∧ t.status.done = true

/-- A whole Stretched MEASURE, Normal or Low, from its request to its result (R165, R176, R178, R183).
`inputs` and `trace` are the model's own: logs 1 and 4. -/
def Obligations.StretchedMeasureWhole : Prop :=
  ∀ (s : State) (data : Word32) (c : Command) (dw d : RData) (okRead : Bool) (rest : List Input),
    s.seq = .idle →
    (data.setWidth 8 = 0x01#8 ∧ c = ⟨0x7C#8, 0xA2#8⟩ ∨ data.setWidth 8 = 0x11#8 ∧ c = ⟨0x64#8, 0x58#8⟩) →
    s.inputs = .hostWrite 0#3 data :: .tpDone true dw :: .tpDone okRead d :: rest →
      ∃ t, Sys2Proof.core.run 3 s = .next t ∧ MeasureResult t okRead d false 0 ∧ t.inputs = rest ∧
        t.devAddr = s.devAddr ∧
        t.trace = [.write s.devAddr c.b0 c.b1 true, finalRead6 s.devAddr okRead d]

/-- A host that requests a Stretched MEASURE, waits, and goes on with whatever accesses it likes makes none of those before the
operation has completed; the WAIT returns then, with the result in place (R79, R103, R256).
`inputs`, with the WAIT in it, and `trace` are the model's own: logs 1, 4 and 18. -/
def Obligations.WaitReturnsWhenDone : Prop :=
  ∀ (s : State) (data : Word32) (c : Command) (dw d : RData) (okRead : Bool) (program rest : List Input),
    s.seq = .idle → (∀ a ∈ program, isHostAccess a = true) →
    (data.setWidth 8 = 0x01#8 ∧ c = ⟨0x7C#8, 0xA2#8⟩ ∨ data.setWidth 8 = 0x11#8 ∧ c = ⟨0x64#8, 0x58#8⟩) →
    s.inputs = .hostWrite 0#3 data :: (expandPseudo .wait ++
      (program ++ .tpDone true dw :: .tpDone okRead d :: rest)) →
      ∃ t, Sys2Proof.core.run 6 s = .next t ∧ MeasureResult t okRead d false 0 ∧ t.inputs = program ++ rest ∧
        t.devAddr = s.devAddr ∧
        t.trace = [.write s.devAddr c.b0 c.b1 true, finalRead6 s.devAddr okRead d]

/-- A whole Polled MEASURE whose probe `k + 1` is the first to succeed (R166 to R169, R177, R179, R183).
`inputs` and `trace` are the model's own: logs 1 and 4. -/
def Obligations.PolledMeasureWhole : Prop :=
  ∀ (s : State) (data : Word32) (c : Command) (probes : List RData) (dw dp d : RData) (okRead : Bool)
      (rest : List Input),
    s.seq = .idle → probes.length < 20 →
    (data.setWidth 8 = 0x09#8 ∧ c = ⟨0x78#8, 0x66#8⟩ ∨ data.setWidth 8 = 0x19#8 ∧ c = ⟨0x60#8, 0x9C#8⟩) →
    s.inputs = .hostWrite 0#3 data :: .tpDone true dw ::
      (failedProbes probes ++ .tpDone true dp :: .tpDone okRead d :: rest) →
      ∃ t, Sys2Proof.core.run (2 * probes.length + 4) s = .next t ∧
        MeasureResult t okRead d true (probes.length + 1) ∧ t.inputs = rest ∧ t.devAddr = s.devAddr ∧
        t.trace = .write s.devAddr c.b0 c.b1 true ::
          (probeRounds s.devAddr probes.length ++ [.read1 s.devAddr true, finalRead6 s.devAddr okRead d])

/-- A whole Polled MEASURE whose twenty probes all fail: the final read is made all the same and decides alone (R170, R177,
R179, R183).
`inputs` and `trace` are the model's own: logs 1 and 4. -/
def Obligations.ExhaustedMeasureWhole : Prop :=
  ∀ (s : State) (data : Word32) (c : Command) (probes : List RData) (dw d : RData) (okRead : Bool)
      (rest : List Input),
    s.seq = .idle → probes.length = 20 →
    (data.setWidth 8 = 0x09#8 ∧ c = ⟨0x78#8, 0x66#8⟩ ∨ data.setWidth 8 = 0x19#8 ∧ c = ⟨0x60#8, 0x9C#8⟩) →
    s.inputs = .hostWrite 0#3 data :: .tpDone true dw :: (failedProbes probes ++ .tpDone okRead d :: rest) →
      ∃ t, Sys2Proof.core.run 43 s = .next t ∧
        MeasureResult t okRead d false 20 ∧ t.inputs = rest ∧ t.devAddr = s.devAddr ∧
        t.trace = .write s.devAddr c.b0 c.b1 true ::
          (probeRounds s.devAddr 20 ++ [finalRead6 s.devAddr okRead d])

/-- A whole IS_PRESENT: it passes if and only if the write and the read succeed and the checksum matches (R210).
`inputs` and `trace` are the model's own: logs 1 and 4. -/
def Obligations.PresenceCheckWhole : Prop :=
  ∀ (s : State) (data : Word32) (dw d : RData) (okRead : Bool) (rest : List Input),
    s.seq = .idle → data.setWidth 8 = 0x02#8 →
    s.inputs = .hostWrite 0#3 data :: .tpDone true dw :: .tpDone okRead d :: rest →
      ∃ t, Sys2Proof.core.run 3 s = .next t ∧ t.seq = .idle ∧ t.inputs = rest ∧
        (t.status.ok = true ↔ okRead = true ∧ crc8 [rdataByte d 0, rdataByte d 1] = rdataByte d 2) ∧
        t.status.done = true ∧ t.status.busy = false ∧ t.status.measValid = false ∧ t.status.probeHit = false ∧
        t.status.errKind = (if okRead then
          (if crc8 [rdataByte d 0, rdataByte d 1] = rdataByte d 2 then .none else .crcMismatch) else .readFailed) ∧
        t.probeCnt = 0#5 ∧ t.tRaw = 0#16 ∧ t.rhRaw = 0#16 ∧ t.temp = 0#32 ∧ t.rh = 0#32 ∧
        t.trace = [.write s.devAddr 0xEF#8 0xC8#8 true,
          .read3 s.devAddr (if okRead then some (rdataByte d 0, rdataByte d 1, rdataByte d 2) else none)]

/-- Whole SLEEP and WAKE operations: one write, and success is the write's success (R211, R212).
`inputs` and `trace` are the model's own: logs 1 and 4. -/
def Obligations.SleepWakeWhole : Prop :=
  ∀ (s : State) (data : Word32) (c : Command) (d : RData) (okWrite : Bool) (rest : List Input),
    s.seq = .idle →
    (data.setWidth 8 = 0x03#8 ∧ c = ⟨0xB0#8, 0x98#8⟩ ∨ data.setWidth 8 = 0x04#8 ∧ c = ⟨0x35#8, 0x17#8⟩) →
    s.inputs = .hostWrite 0#3 data :: .tpDone okWrite d :: rest →
      ∃ t, Sys2Proof.core.run 2 s = .next t ∧ t.seq = .idle ∧ t.inputs = rest ∧
        t.status = ⟨false, true, okWrite, false, false, if okWrite then .none else .writeFailed⟩ ∧
        t.probeCnt = 0#5 ∧ t.tRaw = 0#16 ∧ t.rhRaw = 0#16 ∧ t.temp = 0#32 ∧ t.rh = 0#32 ∧
        t.rx = s.rx ∧ t.crc = s.crc ∧ t.devAddr = s.devAddr ∧
        t.trace = [.write s.devAddr c.b0 c.b1 okWrite]
end

