-- ==== Sys2Proof/Laws/State.lean ====
section
/-! SUPPORT. One lemma per field for each named operation on the state, so that no proof unfolds a record update; and the fields of
`STATUS` after each way of writing it. -/

namespace Sys2Proof.Machine

/-! ### record -/

@[simp] theorem record_seq (t : Transaction) (s : State) : (record t s).seq = s.seq := rfl
@[simp] theorem record_opl (t : Transaction) (s : State) : (record t s).opl = s.opl := rfl
@[simp] theorem record_cmd (t : Transaction) (s : State) : (record t s).cmd = s.cmd := rfl
@[simp] theorem record_rx (t : Transaction) (s : State) : (record t s).rx = s.rx := rfl
@[simp] theorem record_crc (t : Transaction) (s : State) : (record t s).crc = s.crc := rfl
@[simp] theorem record_probeCnt (t : Transaction) (s : State) : (record t s).probeCnt = s.probeCnt := rfl
@[simp] theorem record_devAddr (t : Transaction) (s : State) : (record t s).devAddr = s.devAddr := rfl
@[simp] theorem record_status (t : Transaction) (s : State) : (record t s).status = s.status := rfl
@[simp] theorem record_tRaw (t : Transaction) (s : State) : (record t s).tRaw = s.tRaw := rfl
@[simp] theorem record_rhRaw (t : Transaction) (s : State) : (record t s).rhRaw = s.rhRaw := rfl
@[simp] theorem record_temp (t : Transaction) (s : State) : (record t s).temp = s.temp := rfl
@[simp] theorem record_rh (t : Transaction) (s : State) : (record t s).rh = s.rh := rfl
@[simp] theorem record_inputs (t : Transaction) (s : State) : (record t s).inputs = s.inputs := rfl
@[simp] theorem record_trace (t : Transaction) (s : State) : (record t s).trace = s.trace ++ [t] := rfl
@[simp] theorem record_draws (t : Transaction) (s : State) : (record t s).draws = s.draws := rfl

/-! ### popInput -/

@[simp] theorem popInput_seq (s : State) : (popInput s).seq = s.seq := rfl
@[simp] theorem popInput_opl (s : State) : (popInput s).opl = s.opl := rfl
@[simp] theorem popInput_cmd (s : State) : (popInput s).cmd = s.cmd := rfl
@[simp] theorem popInput_rx (s : State) : (popInput s).rx = s.rx := rfl
@[simp] theorem popInput_crc (s : State) : (popInput s).crc = s.crc := rfl
@[simp] theorem popInput_probeCnt (s : State) : (popInput s).probeCnt = s.probeCnt := rfl
@[simp] theorem popInput_devAddr (s : State) : (popInput s).devAddr = s.devAddr := rfl
@[simp] theorem popInput_status (s : State) : (popInput s).status = s.status := rfl
@[simp] theorem popInput_tRaw (s : State) : (popInput s).tRaw = s.tRaw := rfl
@[simp] theorem popInput_rhRaw (s : State) : (popInput s).rhRaw = s.rhRaw := rfl
@[simp] theorem popInput_temp (s : State) : (popInput s).temp = s.temp := rfl
@[simp] theorem popInput_rh (s : State) : (popInput s).rh = s.rh := rfl
@[simp] theorem popInput_inputs (s : State) : (popInput s).inputs = s.inputs.tail := rfl
@[simp] theorem popInput_trace (s : State) : (popInput s).trace = s.trace := rfl
@[simp] theorem popInput_draws (s : State) : (popInput s).draws = s.draws := rfl

/-! ### raiseFail -/

@[simp] theorem raiseFail_seq (k : ErrKind) (s : State) : (raiseFail k s).seq = .idle := rfl
@[simp] theorem raiseFail_opl (k : ErrKind) (s : State) : (raiseFail k s).opl = s.opl := rfl
@[simp] theorem raiseFail_cmd (k : ErrKind) (s : State) : (raiseFail k s).cmd = s.cmd := rfl
@[simp] theorem raiseFail_rx (k : ErrKind) (s : State) : (raiseFail k s).rx = s.rx := rfl
@[simp] theorem raiseFail_crc (k : ErrKind) (s : State) : (raiseFail k s).crc = s.crc := rfl
@[simp] theorem raiseFail_probeCnt (k : ErrKind) (s : State) : (raiseFail k s).probeCnt = s.probeCnt := rfl
@[simp] theorem raiseFail_devAddr (k : ErrKind) (s : State) : (raiseFail k s).devAddr = s.devAddr := rfl
@[simp] theorem raiseFail_status (k : ErrKind) (s : State) : (raiseFail k s).status = statusFailed k s.status := rfl
@[simp] theorem raiseFail_tRaw (k : ErrKind) (s : State) : (raiseFail k s).tRaw = s.tRaw := rfl
@[simp] theorem raiseFail_rhRaw (k : ErrKind) (s : State) : (raiseFail k s).rhRaw = s.rhRaw := rfl
@[simp] theorem raiseFail_temp (k : ErrKind) (s : State) : (raiseFail k s).temp = s.temp := rfl
@[simp] theorem raiseFail_rh (k : ErrKind) (s : State) : (raiseFail k s).rh = s.rh := rfl
@[simp] theorem raiseFail_inputs (k : ErrKind) (s : State) : (raiseFail k s).inputs = s.inputs := rfl
@[simp] theorem raiseFail_trace (k : ErrKind) (s : State) : (raiseFail k s).trace = s.trace := rfl
@[simp] theorem raiseFail_draws (k : ErrKind) (s : State) : (raiseFail k s).draws = s.draws := rfl

/-! ### completePass -/

@[simp] theorem completePass_seq (s : State) : (completePass s).seq = .idle := rfl
@[simp] theorem completePass_opl (s : State) : (completePass s).opl = s.opl := rfl
@[simp] theorem completePass_cmd (s : State) : (completePass s).cmd = s.cmd := rfl
@[simp] theorem completePass_rx (s : State) : (completePass s).rx = s.rx := rfl
@[simp] theorem completePass_crc (s : State) : (completePass s).crc = s.crc := rfl
@[simp] theorem completePass_probeCnt (s : State) : (completePass s).probeCnt = s.probeCnt := rfl
@[simp] theorem completePass_devAddr (s : State) : (completePass s).devAddr = s.devAddr := rfl
@[simp] theorem completePass_status (s : State) : (completePass s).status = statusPassed s.status := rfl
@[simp] theorem completePass_tRaw (s : State) : (completePass s).tRaw = s.tRaw := rfl
@[simp] theorem completePass_rhRaw (s : State) : (completePass s).rhRaw = s.rhRaw := rfl
@[simp] theorem completePass_temp (s : State) : (completePass s).temp = s.temp := rfl
@[simp] theorem completePass_rh (s : State) : (completePass s).rh = s.rh := rfl
@[simp] theorem completePass_inputs (s : State) : (completePass s).inputs = s.inputs := rfl
@[simp] theorem completePass_trace (s : State) : (completePass s).trace = s.trace := rfl
@[simp] theorem completePass_draws (s : State) : (completePass s).draws = s.draws := rfl

/-! ### issueWrite -/

@[simp] theorem issueWrite_seq (s : State) : (issueWrite s).seq = .write := rfl
@[simp] theorem issueWrite_opl (s : State) : (issueWrite s).opl = s.opl := rfl
@[simp] theorem issueWrite_cmd (s : State) : (issueWrite s).cmd = s.cmd := rfl
@[simp] theorem issueWrite_rx (s : State) : (issueWrite s).rx = s.rx := rfl
@[simp] theorem issueWrite_crc (s : State) : (issueWrite s).crc = s.crc := rfl
@[simp] theorem issueWrite_probeCnt (s : State) : (issueWrite s).probeCnt = s.probeCnt := rfl
@[simp] theorem issueWrite_devAddr (s : State) : (issueWrite s).devAddr = s.devAddr := rfl
@[simp] theorem issueWrite_status (s : State) : (issueWrite s).status = statusBusy s.status := rfl
@[simp] theorem issueWrite_tRaw (s : State) : (issueWrite s).tRaw = s.tRaw := rfl
@[simp] theorem issueWrite_rhRaw (s : State) : (issueWrite s).rhRaw = s.rhRaw := rfl
@[simp] theorem issueWrite_temp (s : State) : (issueWrite s).temp = s.temp := rfl
@[simp] theorem issueWrite_rh (s : State) : (issueWrite s).rh = s.rh := rfl
@[simp] theorem issueWrite_inputs (s : State) : (issueWrite s).inputs = s.inputs := rfl
@[simp] theorem issueWrite_trace (s : State) : (issueWrite s).trace = s.trace := rfl
@[simp] theorem issueWrite_draws (s : State) : (issueWrite s).draws = s.draws := rfl

/-! ### issueProbe -/

@[simp] theorem issueProbe_seq (n : BitVec 5) (s : State) : (issueProbe n s).seq = .probe := rfl
@[simp] theorem issueProbe_opl (n : BitVec 5) (s : State) : (issueProbe n s).opl = s.opl := rfl
@[simp] theorem issueProbe_cmd (n : BitVec 5) (s : State) : (issueProbe n s).cmd = s.cmd := rfl
@[simp] theorem issueProbe_rx (n : BitVec 5) (s : State) : (issueProbe n s).rx = s.rx := rfl
@[simp] theorem issueProbe_crc (n : BitVec 5) (s : State) : (issueProbe n s).crc = s.crc := rfl
@[simp] theorem issueProbe_probeCnt (n : BitVec 5) (s : State) : (issueProbe n s).probeCnt = n := rfl
@[simp] theorem issueProbe_devAddr (n : BitVec 5) (s : State) : (issueProbe n s).devAddr = s.devAddr := rfl
@[simp] theorem issueProbe_status (n : BitVec 5) (s : State) : (issueProbe n s).status = s.status := rfl
@[simp] theorem issueProbe_tRaw (n : BitVec 5) (s : State) : (issueProbe n s).tRaw = s.tRaw := rfl
@[simp] theorem issueProbe_rhRaw (n : BitVec 5) (s : State) : (issueProbe n s).rhRaw = s.rhRaw := rfl
@[simp] theorem issueProbe_temp (n : BitVec 5) (s : State) : (issueProbe n s).temp = s.temp := rfl
@[simp] theorem issueProbe_rh (n : BitVec 5) (s : State) : (issueProbe n s).rh = s.rh := rfl
@[simp] theorem issueProbe_inputs (n : BitVec 5) (s : State) : (issueProbe n s).inputs = s.inputs := rfl
@[simp] theorem issueProbe_trace (n : BitVec 5) (s : State) : (issueProbe n s).trace = s.trace := rfl
@[simp] theorem issueProbe_draws (n : BitVec 5) (s : State) : (issueProbe n s).draws = s.draws := rfl

/-! ### issueDelay -/

@[simp] theorem issueDelay_seq (s : State) : (issueDelay s).seq = .delay := rfl
@[simp] theorem issueDelay_opl (s : State) : (issueDelay s).opl = s.opl := rfl
@[simp] theorem issueDelay_cmd (s : State) : (issueDelay s).cmd = s.cmd := rfl
@[simp] theorem issueDelay_rx (s : State) : (issueDelay s).rx = s.rx := rfl
@[simp] theorem issueDelay_crc (s : State) : (issueDelay s).crc = s.crc := rfl
@[simp] theorem issueDelay_probeCnt (s : State) : (issueDelay s).probeCnt = s.probeCnt := rfl
@[simp] theorem issueDelay_devAddr (s : State) : (issueDelay s).devAddr = s.devAddr := rfl
@[simp] theorem issueDelay_status (s : State) : (issueDelay s).status = s.status := rfl
@[simp] theorem issueDelay_tRaw (s : State) : (issueDelay s).tRaw = s.tRaw := rfl
@[simp] theorem issueDelay_rhRaw (s : State) : (issueDelay s).rhRaw = s.rhRaw := rfl
@[simp] theorem issueDelay_temp (s : State) : (issueDelay s).temp = s.temp := rfl
@[simp] theorem issueDelay_rh (s : State) : (issueDelay s).rh = s.rh := rfl
@[simp] theorem issueDelay_inputs (s : State) : (issueDelay s).inputs = s.inputs := rfl
@[simp] theorem issueDelay_trace (s : State) : (issueDelay s).trace = s.trace := rfl
@[simp] theorem issueDelay_draws (s : State) : (issueDelay s).draws = s.draws := rfl

/-! ### issueRead6 -/

@[simp] theorem issueRead6_seq (s : State) : (issueRead6 s).seq = .read6 := rfl
@[simp] theorem issueRead6_opl (s : State) : (issueRead6 s).opl = s.opl := rfl
@[simp] theorem issueRead6_cmd (s : State) : (issueRead6 s).cmd = s.cmd := rfl
@[simp] theorem issueRead6_rx (s : State) : (issueRead6 s).rx = s.rx := rfl
@[simp] theorem issueRead6_crc (s : State) : (issueRead6 s).crc = s.crc := rfl
@[simp] theorem issueRead6_probeCnt (s : State) : (issueRead6 s).probeCnt = s.probeCnt := rfl
@[simp] theorem issueRead6_devAddr (s : State) : (issueRead6 s).devAddr = s.devAddr := rfl
@[simp] theorem issueRead6_status (s : State) : (issueRead6 s).status = s.status := rfl
@[simp] theorem issueRead6_tRaw (s : State) : (issueRead6 s).tRaw = s.tRaw := rfl
@[simp] theorem issueRead6_rhRaw (s : State) : (issueRead6 s).rhRaw = s.rhRaw := rfl
@[simp] theorem issueRead6_temp (s : State) : (issueRead6 s).temp = s.temp := rfl
@[simp] theorem issueRead6_rh (s : State) : (issueRead6 s).rh = s.rh := rfl
@[simp] theorem issueRead6_inputs (s : State) : (issueRead6 s).inputs = s.inputs := rfl
@[simp] theorem issueRead6_trace (s : State) : (issueRead6 s).trace = s.trace := rfl
@[simp] theorem issueRead6_draws (s : State) : (issueRead6 s).draws = s.draws := rfl

/-! ### issueRead3 -/

@[simp] theorem issueRead3_seq (s : State) : (issueRead3 s).seq = .read3 := rfl
@[simp] theorem issueRead3_opl (s : State) : (issueRead3 s).opl = s.opl := rfl
@[simp] theorem issueRead3_cmd (s : State) : (issueRead3 s).cmd = s.cmd := rfl
@[simp] theorem issueRead3_rx (s : State) : (issueRead3 s).rx = s.rx := rfl
@[simp] theorem issueRead3_crc (s : State) : (issueRead3 s).crc = s.crc := rfl
@[simp] theorem issueRead3_probeCnt (s : State) : (issueRead3 s).probeCnt = s.probeCnt := rfl
@[simp] theorem issueRead3_devAddr (s : State) : (issueRead3 s).devAddr = s.devAddr := rfl
@[simp] theorem issueRead3_status (s : State) : (issueRead3 s).status = s.status := rfl
@[simp] theorem issueRead3_tRaw (s : State) : (issueRead3 s).tRaw = s.tRaw := rfl
@[simp] theorem issueRead3_rhRaw (s : State) : (issueRead3 s).rhRaw = s.rhRaw := rfl
@[simp] theorem issueRead3_temp (s : State) : (issueRead3 s).temp = s.temp := rfl
@[simp] theorem issueRead3_rh (s : State) : (issueRead3 s).rh = s.rh := rfl
@[simp] theorem issueRead3_inputs (s : State) : (issueRead3 s).inputs = s.inputs := rfl
@[simp] theorem issueRead3_trace (s : State) : (issueRead3 s).trace = s.trace := rfl
@[simp] theorem issueRead3_draws (s : State) : (issueRead3 s).draws = s.draws := rfl

/-! ### latchRequest -/

@[simp] theorem latchRequest_seq (w : Byte) (s : State) : (latchRequest w s).seq = s.seq := rfl
@[simp] theorem latchRequest_opl (w : Byte) (s : State) : (latchRequest w s).opl = latchOf w := rfl
@[simp] theorem latchRequest_cmd (w : Byte) (s : State) : (latchRequest w s).cmd = s.cmd := rfl
@[simp] theorem latchRequest_rx (w : Byte) (s : State) : (latchRequest w s).rx = s.rx := rfl
@[simp] theorem latchRequest_crc (w : Byte) (s : State) : (latchRequest w s).crc = s.crc := rfl
@[simp] theorem latchRequest_probeCnt (w : Byte) (s : State) : (latchRequest w s).probeCnt = 0#5 := rfl
@[simp] theorem latchRequest_devAddr (w : Byte) (s : State) : (latchRequest w s).devAddr = s.devAddr := rfl
@[simp] theorem latchRequest_status (w : Byte) (s : State) : (latchRequest w s).status = statusAccepted s.status := rfl
@[simp] theorem latchRequest_tRaw (w : Byte) (s : State) : (latchRequest w s).tRaw = 0#16 := rfl
@[simp] theorem latchRequest_rhRaw (w : Byte) (s : State) : (latchRequest w s).rhRaw = 0#16 := rfl
@[simp] theorem latchRequest_temp (w : Byte) (s : State) : (latchRequest w s).temp = 0#32 := rfl
@[simp] theorem latchRequest_rh (w : Byte) (s : State) : (latchRequest w s).rh = 0#32 := rfl
@[simp] theorem latchRequest_inputs (w : Byte) (s : State) : (latchRequest w s).inputs = s.inputs := rfl
@[simp] theorem latchRequest_trace (w : Byte) (s : State) : (latchRequest w s).trace = [] := rfl
@[simp] theorem latchRequest_draws (w : Byte) (s : State) : (latchRequest w s).draws = s.draws := rfl

/-! ### commitResults -/

@[simp] theorem commitResults_seq (t h : ReplyField) (s : State) : (commitResults t h s).seq = s.seq := rfl
@[simp] theorem commitResults_opl (t h : ReplyField) (s : State) : (commitResults t h s).opl = s.opl := rfl
@[simp] theorem commitResults_cmd (t h : ReplyField) (s : State) : (commitResults t h s).cmd = s.cmd := rfl
@[simp] theorem commitResults_rx (t h : ReplyField) (s : State) : (commitResults t h s).rx = s.rx := rfl
@[simp] theorem commitResults_crc (t h : ReplyField) (s : State) : (commitResults t h s).crc = s.crc := rfl
@[simp] theorem commitResults_probeCnt (t h : ReplyField) (s : State) : (commitResults t h s).probeCnt = s.probeCnt := rfl
@[simp] theorem commitResults_devAddr (t h : ReplyField) (s : State) : (commitResults t h s).devAddr = s.devAddr := rfl
@[simp] theorem commitResults_status (t h : ReplyField) (s : State) : (commitResults t h s).status = statusMeasValid s.status := rfl
@[simp] theorem commitResults_tRaw (t h : ReplyField) (s : State) : (commitResults t h s).tRaw = be16 t.hi t.lo := rfl
@[simp] theorem commitResults_rhRaw (t h : ReplyField) (s : State) : (commitResults t h s).rhRaw = be16 h.hi h.lo := rfl
@[simp] theorem commitResults_temp (t h : ReplyField) (s : State) : (commitResults t h s).temp = tempPattern (be16 t.hi t.lo) := rfl
@[simp] theorem commitResults_rh (t h : ReplyField) (s : State) : (commitResults t h s).rh = rhPattern (be16 h.hi h.lo) := rfl
@[simp] theorem commitResults_inputs (t h : ReplyField) (s : State) : (commitResults t h s).inputs = s.inputs := rfl
@[simp] theorem commitResults_trace (t h : ReplyField) (s : State) : (commitResults t h s).trace = s.trace := rfl
@[simp] theorem commitResults_draws (t h : ReplyField) (s : State) : (commitResults t h s).draws = s.draws := rfl

/-! ### spoilReply -/

@[simp] theorem spoilReply_seq (s : State) : (spoilReply s).seq = s.seq := rfl
@[simp] theorem spoilReply_opl (s : State) : (spoilReply s).opl = s.opl := rfl
@[simp] theorem spoilReply_cmd (s : State) : (spoilReply s).cmd = s.cmd := rfl
@[simp] theorem spoilReply_rx (s : State) : (spoilReply s).rx = unspecifiedReply s.draws := rfl
@[simp] theorem spoilReply_crc (s : State) : (spoilReply s).crc = s.crc := rfl
@[simp] theorem spoilReply_probeCnt (s : State) : (spoilReply s).probeCnt = s.probeCnt := rfl
@[simp] theorem spoilReply_devAddr (s : State) : (spoilReply s).devAddr = s.devAddr := rfl
@[simp] theorem spoilReply_status (s : State) : (spoilReply s).status = s.status := rfl
@[simp] theorem spoilReply_tRaw (s : State) : (spoilReply s).tRaw = s.tRaw := rfl
@[simp] theorem spoilReply_rhRaw (s : State) : (spoilReply s).rhRaw = s.rhRaw := rfl
@[simp] theorem spoilReply_temp (s : State) : (spoilReply s).temp = s.temp := rfl
@[simp] theorem spoilReply_rh (s : State) : (spoilReply s).rh = s.rh := rfl
@[simp] theorem spoilReply_inputs (s : State) : (spoilReply s).inputs = s.inputs := rfl
@[simp] theorem spoilReply_trace (s : State) : (spoilReply s).trace = s.trace := rfl
@[simp] theorem spoilReply_draws (s : State) : (spoilReply s).draws = s.draws + 1 := rfl

/-! ### checkField -/

@[simp] theorem checkField_seq (f : ReplyField) (s : State) : (checkField f s).seq = s.seq := rfl
@[simp] theorem checkField_opl (f : ReplyField) (s : State) : (checkField f s).opl = s.opl := rfl
@[simp] theorem checkField_cmd (f : ReplyField) (s : State) : (checkField f s).cmd = s.cmd := rfl
@[simp] theorem checkField_rx (f : ReplyField) (s : State) : (checkField f s).rx = s.rx := rfl
@[simp] theorem checkField_crc (f : ReplyField) (s : State) : (checkField f s).crc = crc8 [f.hi, f.lo] := rfl
@[simp] theorem checkField_probeCnt (f : ReplyField) (s : State) : (checkField f s).probeCnt = s.probeCnt := rfl
@[simp] theorem checkField_devAddr (f : ReplyField) (s : State) : (checkField f s).devAddr = s.devAddr := rfl
@[simp] theorem checkField_status (f : ReplyField) (s : State) : (checkField f s).status = s.status := rfl
@[simp] theorem checkField_tRaw (f : ReplyField) (s : State) : (checkField f s).tRaw = s.tRaw := rfl
@[simp] theorem checkField_rhRaw (f : ReplyField) (s : State) : (checkField f s).rhRaw = s.rhRaw := rfl
@[simp] theorem checkField_temp (f : ReplyField) (s : State) : (checkField f s).temp = s.temp := rfl
@[simp] theorem checkField_rh (f : ReplyField) (s : State) : (checkField f s).rh = s.rh := rfl
@[simp] theorem checkField_inputs (f : ReplyField) (s : State) : (checkField f s).inputs = s.inputs := rfl
@[simp] theorem checkField_trace (f : ReplyField) (s : State) : (checkField f s).trace = s.trace := rfl
@[simp] theorem checkField_draws (f : ReplyField) (s : State) : (checkField f s).draws = s.draws := rfl

/-! ### checkSecond -/

@[simp] theorem checkSecond_seq (b : Bool) (h : ReplyField) (s : State) : (checkSecond b h s).seq = s.seq := rfl
@[simp] theorem checkSecond_opl (b : Bool) (h : ReplyField) (s : State) : (checkSecond b h s).opl = s.opl := rfl
@[simp] theorem checkSecond_cmd (b : Bool) (h : ReplyField) (s : State) : (checkSecond b h s).cmd = s.cmd := rfl
@[simp] theorem checkSecond_rx (b : Bool) (h : ReplyField) (s : State) : (checkSecond b h s).rx = s.rx := rfl
@[simp] theorem checkSecond_crc (b : Bool) (h : ReplyField) (s : State) : (checkSecond b h s).crc = if b || Config.secondCheckAlways then crc8 [h.hi, h.lo] else s.crc := rfl
@[simp] theorem checkSecond_probeCnt (b : Bool) (h : ReplyField) (s : State) : (checkSecond b h s).probeCnt = s.probeCnt := rfl
@[simp] theorem checkSecond_devAddr (b : Bool) (h : ReplyField) (s : State) : (checkSecond b h s).devAddr = s.devAddr := rfl
@[simp] theorem checkSecond_status (b : Bool) (h : ReplyField) (s : State) : (checkSecond b h s).status = s.status := rfl
@[simp] theorem checkSecond_tRaw (b : Bool) (h : ReplyField) (s : State) : (checkSecond b h s).tRaw = s.tRaw := rfl
@[simp] theorem checkSecond_rhRaw (b : Bool) (h : ReplyField) (s : State) : (checkSecond b h s).rhRaw = s.rhRaw := rfl
@[simp] theorem checkSecond_temp (b : Bool) (h : ReplyField) (s : State) : (checkSecond b h s).temp = s.temp := rfl
@[simp] theorem checkSecond_rh (b : Bool) (h : ReplyField) (s : State) : (checkSecond b h s).rh = s.rh := rfl
@[simp] theorem checkSecond_inputs (b : Bool) (h : ReplyField) (s : State) : (checkSecond b h s).inputs = s.inputs := rfl
@[simp] theorem checkSecond_trace (b : Bool) (h : ReplyField) (s : State) : (checkSecond b h s).trace = s.trace := rfl
@[simp] theorem checkSecond_draws (b : Bool) (h : ReplyField) (s : State) : (checkSecond b h s).draws = s.draws := rfl

/-! ### pollStatus -/

@[simp] theorem pollStatus_seq (s : State) : (pollStatus s).seq = s.seq := rfl
@[simp] theorem pollStatus_opl (s : State) : (pollStatus s).opl = s.opl := rfl
@[simp] theorem pollStatus_cmd (s : State) : (pollStatus s).cmd = s.cmd := rfl
@[simp] theorem pollStatus_rx (s : State) : (pollStatus s).rx = s.rx := rfl
@[simp] theorem pollStatus_crc (s : State) : (pollStatus s).crc = s.crc := rfl
@[simp] theorem pollStatus_probeCnt (s : State) : (pollStatus s).probeCnt = s.probeCnt := rfl
@[simp] theorem pollStatus_devAddr (s : State) : (pollStatus s).devAddr = s.devAddr := rfl
@[simp] theorem pollStatus_status (s : State) : (pollStatus s).status = s.status := rfl
@[simp] theorem pollStatus_tRaw (s : State) : (pollStatus s).tRaw = s.tRaw := rfl
@[simp] theorem pollStatus_rhRaw (s : State) : (pollStatus s).rhRaw = s.rhRaw := rfl
@[simp] theorem pollStatus_temp (s : State) : (pollStatus s).temp = s.temp := rfl
@[simp] theorem pollStatus_rh (s : State) : (pollStatus s).rh = s.rh := rfl
@[simp] theorem pollStatus_inputs (s : State) : (pollStatus s).inputs = if waitOver s then s.inputs else waitAgain s.inputs := rfl
@[simp] theorem pollStatus_trace (s : State) : (pollStatus s).trace = s.trace := rfl
@[simp] theorem pollStatus_draws (s : State) : (pollStatus s).draws = s.draws := rfl

/-! ### resetEffect -/

@[simp] theorem resetEffect_seq (s : State) : (resetEffect s).seq = State.reset.seq := rfl
@[simp] theorem resetEffect_opl (s : State) : (resetEffect s).opl = State.reset.opl := rfl
@[simp] theorem resetEffect_cmd (s : State) : (resetEffect s).cmd = State.reset.cmd := rfl
@[simp] theorem resetEffect_rx (s : State) : (resetEffect s).rx = State.reset.rx := rfl
@[simp] theorem resetEffect_crc (s : State) : (resetEffect s).crc = State.reset.crc := rfl
@[simp] theorem resetEffect_probeCnt (s : State) : (resetEffect s).probeCnt = State.reset.probeCnt := rfl
@[simp] theorem resetEffect_devAddr (s : State) : (resetEffect s).devAddr = State.reset.devAddr := rfl
@[simp] theorem resetEffect_status (s : State) : (resetEffect s).status = State.reset.status := rfl
@[simp] theorem resetEffect_tRaw (s : State) : (resetEffect s).tRaw = State.reset.tRaw := rfl
@[simp] theorem resetEffect_rhRaw (s : State) : (resetEffect s).rhRaw = State.reset.rhRaw := rfl
@[simp] theorem resetEffect_temp (s : State) : (resetEffect s).temp = State.reset.temp := rfl
@[simp] theorem resetEffect_rh (s : State) : (resetEffect s).rh = State.reset.rh := rfl
@[simp] theorem resetEffect_inputs (s : State) : (resetEffect s).inputs = s.inputs := rfl
@[simp] theorem resetEffect_trace (s : State) : (resetEffect s).trace = State.reset.trace := rfl
@[simp] theorem resetEffect_draws (s : State) : (resetEffect s).draws = s.draws := rfl

/-! ### statusAccepted -/

@[simp] theorem statusAccepted_busy (f : Status) : (statusAccepted f).busy = f.busy := rfl
@[simp] theorem statusAccepted_done (f : Status) : (statusAccepted f).done = false := rfl
@[simp] theorem statusAccepted_ok (f : Status) : (statusAccepted f).ok = false := rfl
@[simp] theorem statusAccepted_measValid (f : Status) : (statusAccepted f).measValid = false := rfl
@[simp] theorem statusAccepted_probeHit (f : Status) : (statusAccepted f).probeHit = false := rfl
@[simp] theorem statusAccepted_errKind (f : Status) : (statusAccepted f).errKind = .none := rfl

/-! ### statusBusy -/

@[simp] theorem statusBusy_busy (f : Status) : (statusBusy f).busy = true := rfl
@[simp] theorem statusBusy_done (f : Status) : (statusBusy f).done = f.done := rfl
@[simp] theorem statusBusy_ok (f : Status) : (statusBusy f).ok = f.ok := rfl
@[simp] theorem statusBusy_measValid (f : Status) : (statusBusy f).measValid = f.measValid := rfl
@[simp] theorem statusBusy_probeHit (f : Status) : (statusBusy f).probeHit = f.probeHit := rfl
@[simp] theorem statusBusy_errKind (f : Status) : (statusBusy f).errKind = f.errKind := rfl

/-! ### statusProbeHit -/

@[simp] theorem statusProbeHit_busy (f : Status) : (statusProbeHit f).busy = f.busy := rfl
@[simp] theorem statusProbeHit_done (f : Status) : (statusProbeHit f).done = f.done := rfl
@[simp] theorem statusProbeHit_ok (f : Status) : (statusProbeHit f).ok = f.ok := rfl
@[simp] theorem statusProbeHit_measValid (f : Status) : (statusProbeHit f).measValid = f.measValid := rfl
@[simp] theorem statusProbeHit_probeHit (f : Status) : (statusProbeHit f).probeHit = true := rfl
@[simp] theorem statusProbeHit_errKind (f : Status) : (statusProbeHit f).errKind = f.errKind := rfl

/-! ### statusMeasValid -/

@[simp] theorem statusMeasValid_busy (f : Status) : (statusMeasValid f).busy = f.busy := rfl
@[simp] theorem statusMeasValid_done (f : Status) : (statusMeasValid f).done = f.done := rfl
@[simp] theorem statusMeasValid_ok (f : Status) : (statusMeasValid f).ok = f.ok := rfl
@[simp] theorem statusMeasValid_measValid (f : Status) : (statusMeasValid f).measValid = true := rfl
@[simp] theorem statusMeasValid_probeHit (f : Status) : (statusMeasValid f).probeHit = f.probeHit := rfl
@[simp] theorem statusMeasValid_errKind (f : Status) : (statusMeasValid f).errKind = f.errKind := rfl

/-! ### statusPassed -/

@[simp] theorem statusPassed_busy (f : Status) : (statusPassed f).busy = false := rfl
@[simp] theorem statusPassed_done (f : Status) : (statusPassed f).done = true := rfl
@[simp] theorem statusPassed_ok (f : Status) : (statusPassed f).ok = true := rfl
@[simp] theorem statusPassed_measValid (f : Status) : (statusPassed f).measValid = f.measValid := rfl
@[simp] theorem statusPassed_probeHit (f : Status) : (statusPassed f).probeHit = f.probeHit := rfl
@[simp] theorem statusPassed_errKind (f : Status) : (statusPassed f).errKind = .none := rfl

/-! ### statusFailed -/

@[simp] theorem statusFailed_busy (k : ErrKind) (f : Status) : (statusFailed k f).busy = false := rfl
@[simp] theorem statusFailed_done (k : ErrKind) (f : Status) : (statusFailed k f).done = true := rfl
@[simp] theorem statusFailed_ok (k : ErrKind) (f : Status) : (statusFailed k f).ok = false := rfl
@[simp] theorem statusFailed_measValid (k : ErrKind) (f : Status) : (statusFailed k f).measValid = false := rfl
@[simp] theorem statusFailed_probeHit (k : ErrKind) (f : Status) : (statusFailed k f).probeHit = f.probeHit := rfl
@[simp] theorem statusFailed_errKind (k : ErrKind) (f : Status) : (statusFailed k f).errKind = k := rfl

end Sys2Proof.Machine
end

