-- ==== Sys2Proof/Laws/Ops.lean ====
section
/-! SUPPORT. What each shared operation can do, said once: the provers cite these lemmas instead of unfolding the operations.
`step_eq` is the one to start from. -/

namespace Sys2Proof.Machine

/-! ### Requests -/

/-- Every request word decodes to the instruction of its row of R93, or is invalid. -/
theorem decodeReq_cases : ∀ w : Byte,
    (validRequest w = true ∧
      ((w = 0x01#8 ∧ decodeReq w = .instr .measureSN) ∨ (w = 0x09#8 ∧ decodeReq w = .instr .measurePN) ∨
      (w = 0x11#8 ∧ decodeReq w = .instr .measureSL) ∨ (w = 0x19#8 ∧ decodeReq w = .instr .measurePL) ∨
      (w = 0x02#8 ∧ decodeReq w = .instr .isPresent) ∨ (w = 0x03#8 ∧ decodeReq w = .instr .sleep) ∨
      (w = 0x04#8 ∧ decodeReq w = .instr .wake))) ∨
    (validRequest w = false ∧ (decodeReq w = .rejected .reservedBits ∨ decodeReq w = .rejected .reservedOp ∨
      decodeReq w = .rejected .modeOnModeless)) := by decide

/-- The instruction a request word decodes to is the host writing that word. -/
theorem exec_of_decodeReq {w : Byte} {i : Instr} (h : decodeReq w = .instr i) (s : State) :
    exec i s = .next (hostRequest w s) := by
  rcases decodeReq_cases w with ⟨-, hc⟩ | ⟨-, hc⟩
  · rcases hc with ⟨rfl, hd⟩ | ⟨rfl, hd⟩ | ⟨rfl, hd⟩ | ⟨rfl, hd⟩ | ⟨rfl, hd⟩ | ⟨rfl, hd⟩ | ⟨rfl, hd⟩ <;>
      (rw [hd] at h; cases h; rfl)
  · rcases hc with hd | hd | hd <;> (rw [hd] at h; cases h)

theorem acceptRequest_valid {w : Byte} (h : validRequest w = true) (s : State) :
    acceptRequest w s = issueWrite (loadCommand (latchRequest w s)) := by simp [acceptRequest, h]

theorem acceptRequest_invalid {w : Byte} (h : validRequest w = false) (s : State) :
    acceptRequest w s = raiseFail .invalidReq (latchRequest w s) := by simp [acceptRequest, h]

/-- A valid request has a command. -/
theorem selectCommand_of_valid : ∀ w : Byte, validRequest w = true → (selectCommand (latchOf w)).isSome = true := by
  decide

theorem loadCommand_of_some {s : State} {c : Command} (h : selectCommand s.opl = some c) :
    loadCommand s = { s with cmd := c } := by simp [loadCommand, h]

/-- Acceptance of a valid request, with the command it loads. -/
theorem acceptRequest_spec {w : Byte} (h : validRequest w = true) (s : State) :
    ∃ c, selectCommand (latchOf w) = some c ∧
      acceptRequest w s = issueWrite { latchRequest w s with cmd := c } := by
  obtain ⟨c, hc⟩ := Option.isSome_iff_exists.mp (selectCommand_of_valid w h)
  exact ⟨c, hc, by rw [acceptRequest_valid h, loadCommand_of_some (c := c) (by simpa using hc)]⟩

theorem hostRequest_idle {s : State} (h : s.seq = .idle) (w : Byte) : hostRequest w s = acceptRequest w s := by
  simp [hostRequest, h]

theorem hostRequest_busy {s : State} (h : s.seq ≠ .idle) (w : Byte) : hostRequest w s = s := by
  cases hs : s.seq <;> simp_all [hostRequest]

theorem writeDevAddr_busy {s : State} (h : s.seq ≠ .idle) (data : Word32) : writeDevAddr data s = s := by
  cases hs : s.seq <;> simp_all [writeDevAddr]

/-- What a latched valid request reads back as is valid, and selects the same command. -/
theorem reqReadByte_latchOf_valid : ∀ w : Byte, validRequest w = true → validRequest (reqReadByte (latchOf w)) = true := by
  decide

/-! ### Wire commands -/

/-- Two bytes that decode are one of the seven commands, and its meaning is the answer of the write that carries them. -/
theorem exec_of_decodeWire {b0 b1 : Byte} {i : Instr} (h : decodeWire b0 b1 = .instr i) (s : State) :
    exec i s = commandWrite b0 b1 s := by
  unfold decodeWire at h
  repeat' split at h
  all_goals first
    | (cases h; done)
    | (rename_i hb; obtain ⟨rfl, rfl⟩ := hb; cases h; rfl)

theorem commandWrite_answered {s : State} {ok : Bool} {d : RData} {rest : List Input} (h : s.seq = .write)
    (hi : s.inputs = .tpDone ok d :: rest) :
    commandWrite s.cmd.b0 s.cmd.b1 s = answerWrite ok { s with inputs := rest } := by
  simp [commandWrite, h, hi, popInput]

/-! ### One step -/

theorem popInput_of_cons {s : State} {e : Input} {rest : List Input} (h : s.inputs = e :: rest) :
    popInput s = { s with inputs := rest } := by simp [popInput, h]

/-- One step, said once: what each input does, whatever is decoded on the way (R175). -/
theorem step_eq (s : State) :
    step s =
      match s.inputs with
      | [] => .next s
      | .hostWrite sel data :: rest => .next (hostWriteEffect sel data { s with inputs := rest })
      | .hostRead _ :: rest => .next { s with inputs := rest }
      | .hostWait :: rest => .next (pollStatus { s with inputs := rest })
      | .tpDone ok d :: rest => transportAnswer ok d { s with inputs := rest }
      | .dlDone :: rest => .next (delayReturn { s with inputs := rest })
      | .rst :: rest => .next (resetEffect { s with inputs := rest }) := by
  cases hi : s.inputs with
  | nil => simp [step, fetch, hi]
  | cons e rest =>
    have hp := popInput_of_cons hi
    cases e with
    | hostWrite sel data =>
      simp only [step, fetch, hi, hp, fetchRequest]
      by_cases hc : sel = 0#3 ∧ s.seq = .idle
      · obtain ⟨rfl, hs⟩ := hc
        simp only [hs, and_self, if_true]
        cases hd : decode [requestWord data] with
        | instr i =>
          simp only [exec_of_decodeReq (show decodeReq (requestWord data) = .instr i from hd), hostWriteEffect, if_true]
        | rejected e => rfl
      · simp [hc]
    | hostRead sel => simp [step, fetch, hi, hp, hostReadEffect]
    | hostWait => simp [step, fetch, hi, hp]
    | tpDone ok d =>
      simp only [step, fetch, hi, hp, fetchAnswer]
      by_cases hs : s.seq = .write
      · simp only [hs, if_true]
        cases hd : decode [s.cmd.b0, s.cmd.b1] with
        | instr i =>
          simp only [exec_of_decodeWire (show decodeWire s.cmd.b0 s.cmd.b1 = .instr i from hd),
            commandWrite_answered hs hi, transportAnswer, hs]
        | rejected e => rfl
      · simp [hs]
    | dlDone => simp [step, fetch, hi, hp]
    | rst => simp [step, fetch, hi, hp]

/-- What an input does to the state past it. A helper for proofs: `step` is `reactTo` after the input is taken. -/
def reactTo (e : Input) (s : State) : Host.Outcome State Fault Refusal :=
  match e with
  | .hostWrite sel data => .next (hostWriteEffect sel data s)
  | .hostRead _ => .next s
  | .hostWait => .next (pollStatus s)
  | .tpDone ok d => transportAnswer ok d s
  | .dlDone => .next (delayReturn s)
  | .rst => .next (resetEffect s)

theorem step_of_cons {s : State} {e : Input} {rest : List Input} (h : s.inputs = e :: rest) :
    step s = reactTo e { s with inputs := rest } := by
  rw [step_eq, h]
  cases e <;> rfl

/-- If a step answers a next state, either nothing happened or the next input was taken. A proof about every step starts here, with
the state past the input as a variable of its own. -/
theorem step_next_cases {s t : State} (h : step s = .next t) :
    (s.inputs = [] ∧ t = s) ∨
    ∃ e u, s.inputs = e :: u.inputs ∧ u = { s with inputs := u.inputs } ∧ reactTo e u = .next t := by
  cases hi : s.inputs with
  | nil => rw [step_eq, hi] at h; cases h; exact .inl ⟨rfl, rfl⟩
  | cons e rest => exact .inr ⟨e, { s with inputs := rest }, rfl, rfl, step_of_cons hi ▸ h⟩

/-! ### Waiting -/

/-- Bit 1 of `STATUS` is `DONE`, also as the host reads the register (R28). -/
theorem statusByte_done (f : Status) : ((statusByte f).setWidth 32).getLsbD 1 = f.done := by
  obtain ⟨b, d, o, m, p, e⟩ := f
  cases b <;> cases d <;> cases o <;> cases m <;> cases p <;> cases e <;> decide

/-- A `WAIT` ends when `DONE` is 1 (R103). -/
@[simp] theorem waitOver_eq (s : State) : waitOver s = s.status.done := statusByte_done s.status

/-- A poll that reads `DONE` = 1 ends the `WAIT` (R103). -/
theorem pollStatus_done {s : State} (h : s.status.done = true) : pollStatus s = s := by
  simp [pollStatus, h, hostReadEffect]

/-- A poll that reads `DONE` = 0 changes nothing but the order of what is to come (R103). -/
theorem pollStatus_waiting {s : State} (h : s.status.done = false) :
    pollStatus s = { s with inputs := waitAgain s.inputs } := by
  simp [pollStatus, h, hostReadEffect]

/-- With host accesses only to come, a `WAIT` that is not over stays as it is. -/
theorem waitAgain_host {es : List Input} (h : ∀ e ∈ es, isHostAccess e = true) : waitAgain es = .hostWait :: es := by
  have : es.dropWhile isHostAccess = [] := List.dropWhile_eq_nil_iff.mpr h
  simp [waitAgain, this]

/-- The next thing from outside goes ahead of a `WAIT` that is not over; the host's later accesses stay behind it. -/
theorem waitAgain_outside {held : List Input} {e : Input} (hh : ∀ a ∈ held, isHostAccess a = true)
    (he : isHostAccess e = false) (later : List Input) :
    waitAgain (held ++ e :: later) = e :: .hostWait :: (held ++ later) := by
  have hd : (held ++ e :: later).dropWhile isHostAccess = e :: later := by
    rw [List.dropWhile_append_of_pos hh]; simp [he]
  have ht : (held ++ e :: later).takeWhile isHostAccess = held := by
    rw [List.takeWhile_append_of_pos hh]; simp [he]
  simp [waitAgain, hd, ht]

/-- What an answer of the transport can do, by the waiting state (rows T3 to T9 and T12 to T17 of R175). -/
theorem transportAnswer_cases {s t : State} {ok : Bool} {d : RData} (h : transportAnswer ok d s = .next t) :
    ((s.seq = .idle ∨ s.seq = .delay) ∧ t = s) ∨
    (s.seq = .write ∧ answerWrite ok s = .next t) ∨
    (s.seq = .probe ∧ t = answerProbe ok s) ∨
    (s.seq = .read6 ∧ t = answerRead6 ok d s) ∨
    (s.seq = .read3 ∧ t = answerRead3 ok d s) := by
  cases hs : s.seq <;> simp only [transportAnswer, hs] at h <;> simp_all

/-- A run takes a step that answers a next state. -/
theorem run_of_step {s t : State} (h : step s = .next t) (n : Nat) :
    Sys2Proof.core.run (n + 1) s = Sys2Proof.core.run n t := by
  have h' : Sys2Proof.core.step s = .next t := h
  simp only [Host.Core.run, h']

/-! ### Answers -/

/-- After a successful command write, by the operation (R164). -/
theorem afterWrite_cases {s t : State} (h : afterWrite s = .next t) :
    (s.opl.op = 1#3 ∧ s.opl.timing = .stretched ∧ t = issueRead6 s) ∨
    (s.opl.op = 1#3 ∧ s.opl.timing = .polled ∧ t = issueProbe 1#5 s) ∨
    (s.opl.op = 2#3 ∧ t = issueRead3 s) ∨
    ((s.opl.op = 3#3 ∨ s.opl.op = 4#3) ∧ t = completePass s) := by
  unfold afterWrite at h
  split at h
  · cases ht : s.opl.timing <;> simp_all
  · split at h
    · simp_all
    · split at h
      · simp_all
      · split at h
        · simp_all
        · cases h

/-- The return of a delay, by the count of probes (rows T10 and T11). -/
theorem answerDelay_cases (s : State) :
    (s.probeCnt < Config.probeMax ∧
      answerDelay s = issueProbe (s.probeCnt + 1#5) (record (.delay Config.probeDelay) s)) ∨
    (¬ s.probeCnt < Config.probeMax ∧ answerDelay s = issueRead6 (record (.delay Config.probeDelay) s)) := by
  by_cases h : s.probeCnt < Config.probeMax
  · exact .inl ⟨h, by simp [answerDelay, h]⟩
  · exact .inr ⟨h, by simp [answerDelay, h]⟩

/-- A field check is the pure validator, whatever the `CRC` register held (R21, R126). -/
theorem fieldPasses_eq (f : ReplyField) (s : State) : fieldPasses f s = f.valid := rfl

/-- After a first success the second check is a field check (R172). -/
@[simp] theorem checkSecond_true (h : ReplyField) (s : State) : checkSecond true h s = checkField h s := rfl

/-- After a first failure the second check leaves one of two checksums (R172, D17; log 6). -/
theorem checkSecond_cases (b : Bool) (h : ReplyField) (s : State) :
    checkSecond b h s = checkField h s ∨ checkSecond b h s = s := by
  by_cases g : (b || Config.secondCheckAlways) = true
  · exact .inl (by simp only [checkSecond, if_pos g]; rfl)
  · exact .inr (by simp only [checkSecond, if_neg g])

/-- The body of R172, in one equation. -/
theorem frameCommit_eq (s : State) :
    frameCommit s =
      let s' := checkSecond (validate [s.rx.b0, s.rx.b1] s.rx.b2) ⟨s.rx.b3, s.rx.b4, s.rx.b5⟩
        (checkField ⟨s.rx.b0, s.rx.b1, s.rx.b2⟩ s)
      if validate [s.rx.b0, s.rx.b1] s.rx.b2 && validate [s.rx.b3, s.rx.b4] s.rx.b5 then
        completePass (commitResults ⟨s.rx.b0, s.rx.b1, s.rx.b2⟩ ⟨s.rx.b3, s.rx.b4, s.rx.b5⟩ s')
      else raiseFail .crcMismatch s' := rfl

/-- The check of a presence reply, in one equation (R210). -/
theorem presenceCheck_eq (s : State) :
    presenceCheck s =
      let s' := checkField ⟨s.rx.b0, s.rx.b1, s.rx.b2⟩ s
      if validate [s.rx.b0, s.rx.b1] s.rx.b2 then completePass s' else raiseFail .crcMismatch s' := rfl

end Sys2Proof.Machine
end

