-- ==== Sys2Proof/Laws/PerInstr.lean ====
section
/-! SUPPORT. Statements made once per instruction, about the instruction as syntax. -/

namespace Sys2Proof.Laws

/-- An instruction's encoding is the word of its row: one byte for a host operation, the request word of its fields; two bytes for a
wire command, the bytes its sender's command selector loads (R91, R93, R95, R163). -/
def RowEncoding.Statement (i : Instr) : Prop :=
  i.wellFormed = true ∧
    match i.reqFields with
    | some f => encode i = [reqWordOf f]
    | none => ∃ f c, (senderOf i).reqFields = some f ∧
        Machine.selectCommand ⟨f.op, f.timing, f.power⟩ = some c ∧ encode i = [c.b0, c.b1]

theorem RowEncoding.measureSN : RowEncoding.Statement .measureSN := ⟨rfl, rfl⟩
theorem RowEncoding.measurePN : RowEncoding.Statement .measurePN := ⟨rfl, rfl⟩
theorem RowEncoding.measureSL : RowEncoding.Statement .measureSL := ⟨rfl, rfl⟩
theorem RowEncoding.measurePL : RowEncoding.Statement .measurePL := ⟨rfl, rfl⟩
theorem RowEncoding.isPresent : RowEncoding.Statement .isPresent := ⟨rfl, rfl⟩
theorem RowEncoding.sleep : RowEncoding.Statement .sleep := ⟨rfl, rfl⟩
theorem RowEncoding.wake : RowEncoding.Statement .wake := ⟨rfl, rfl⟩
theorem RowEncoding.cmdGetId : RowEncoding.Statement .cmdGetId := ⟨rfl, _, _, rfl, rfl, rfl⟩
theorem RowEncoding.cmdSleep : RowEncoding.Statement .cmdSleep := ⟨rfl, _, _, rfl, rfl, rfl⟩
theorem RowEncoding.cmdWake : RowEncoding.Statement .cmdWake := ⟨rfl, _, _, rfl, rfl, rfl⟩
theorem RowEncoding.cmdMeasNormalPolled : RowEncoding.Statement .cmdMeasNormalPolled := ⟨rfl, _, _, rfl, rfl, rfl⟩
theorem RowEncoding.cmdMeasNormalStretched : RowEncoding.Statement .cmdMeasNormalStretched := ⟨rfl, _, _, rfl, rfl, rfl⟩
theorem RowEncoding.cmdMeasLowPolled : RowEncoding.Statement .cmdMeasLowPolled := ⟨rfl, _, _, rfl, rfl, rfl⟩
theorem RowEncoding.cmdMeasLowStretched : RowEncoding.Statement .cmdMeasLowStretched := ⟨rfl, _, _, rfl, rfl, rfl⟩

end Sys2Proof.Laws
end

