-- ==== Sys2Proof/Tests/Slice0.lean ====
section
/-! SUPPORT. The author's tests: decoding of words written out from spec/30_encoding.md, the checks of WellFormed on ill-formed
request words, single steps whose expected results are the vectors of spec/95_test_vectors.md, and for every statement with
hypotheses a state and operands that meet them. -/

namespace Sys2Proof.Tests

open Sys2Proof.Machine Sys2Proof.Safety

/-! ### WellFormed refuses each ill-formed request word -/

theorem test_reserved_bits_refused : (⟨1#3, .stretched, .normal, 1#3⟩ : ReqFields).wellFormed = false := by decide
theorem test_reserved_op_refused : (⟨5#3, .stretched, .normal, 0#3⟩ : ReqFields).wellFormed = false := by decide
theorem test_zero_op_refused : (⟨0#3, .stretched, .normal, 0#3⟩ : ReqFields).wellFormed = false := by decide
theorem test_timing_on_presence_refused : (⟨2#3, .polled, .normal, 0#3⟩ : ReqFields).wellFormed = false := by decide
theorem test_power_on_sleep_refused : (⟨3#3, .stretched, .low, 0#3⟩ : ReqFields).wellFormed = false := by decide
theorem test_measure_polled_low_accepted : (⟨1#3, .polled, .low, 0#3⟩ : ReqFields).wellFormed = true := by decide

/-! ### Decoding: the words of R93 (bits 7:5, POWER, TIMING, OP) and of R95 (first byte, second byte), bit by bit -/

theorem test_decode_measureSN : decodeTableWord 8 0b000_0_0_001 = some .measureSN := by decide
theorem test_decode_measurePN : decodeTableWord 8 0b000_0_1_001 = some .measurePN := by decide
theorem test_decode_measureSL : decodeTableWord 8 0b000_1_0_001 = some .measureSL := by decide
theorem test_decode_measurePL : decodeTableWord 8 0b000_1_1_001 = some .measurePL := by decide
theorem test_decode_isPresent : decodeTableWord 8 0b000_0_0_010 = some .isPresent := by decide
theorem test_decode_sleep : decodeTableWord 8 0b000_0_0_011 = some .sleep := by decide
theorem test_decode_wake : decodeTableWord 8 0b000_0_0_100 = some .wake := by decide
theorem test_decode_cmdGetId : decodeTableWord 16 0b11101111_11001000 = some .cmdGetId := by decide
theorem test_decode_cmdSleep : decodeTableWord 16 0b10110000_10011000 = some .cmdSleep := by decide
theorem test_decode_cmdWake : decodeTableWord 16 0b00110101_00010111 = some .cmdWake := by decide
theorem test_decode_cmdMeasNormalPolled : decodeTableWord 16 0b01111000_01100110 = some .cmdMeasNormalPolled := by decide
theorem test_decode_cmdMeasNormalStretched :
    decodeTableWord 16 0b01111100_10100010 = some .cmdMeasNormalStretched := by decide
theorem test_decode_cmdMeasLowPolled : decodeTableWord 16 0b01100000_10011100 = some .cmdMeasLowPolled := by decide
theorem test_decode_cmdMeasLowStretched : decodeTableWord 16 0b01100100_01011000 = some .cmdMeasLowStretched := by decide

/-- The invalid words of spec/95_test_vectors.md section 4. -/
theorem test_decode_invalid_words :
    [0x00#8, 0x05#8, 0x06#8, 0x07#8, 0x0A#8, 0x13#8, 0x1C#8, 0x21#8, 0x81#8, 0xFF#8].all
      (fun w => validRequest w == false && (decode [w]).toOption == none) = true := by decide

/-- A command's bytes are not interchangeable, and no other length decodes. -/
theorem test_decode_swapped_command : decode [0xC8#8, 0xEF#8] = .rejected .unknownCommand := by decide
theorem test_decode_no_byte : decode [] = .rejected .truncated := by decide
theorem test_decode_three_bytes : decode [0xEF#8, 0xC8#8, 0x01#8] = .rejected .tooLong := by decide

/-! ### Single steps -/

/-- What a step's next state shows, if there is one. -/
def shows {α : Type} (o : Host.Outcome State Fault Refusal) (f : State → α) : Option α :=
  match o with
  | .next t => some (f t)
  | .fault _ => none
  | .refused _ => none

/-- A state that waits in `q`, with a latched operation, its command and inputs to come; the rest is as after reset. -/
def waiting (q : Seq) (l : Latch) (c : Command) (es : List Input) : State :=
  { State.reset with seq := q, opl := l, cmd := c, inputs := es, status := statusBusy Status.clear }

/-- An idle block with inputs to come. -/
def idleWith (es : List Input) : State := { State.reset with inputs := es }

/-- The latches of the requests that appear below. -/
def polledN : Latch := ⟨1#3, .polled, .normal⟩
def stretchedN : Latch := ⟨1#3, .stretched, .normal⟩
def presenceL : Latch := ⟨2#3, .stretched, .normal⟩

/-- What an accepted request shows: the waiting state, the command, `STATUS`, and `REQ` as read. -/
def accepted (t : State) : Seq × Command × Byte × Word32 := (t.seq, t.cmd, statusByte t.status, hreg t 0#3)

theorem test_step_measureSN : shows (step (State.reset.withFetchWord 8 0x01)) accepted =
    some (.write, ⟨0x7C#8, 0xA2#8⟩, 0x01#8, 0x01#32) := by decide
theorem test_step_measurePN : shows (step (State.reset.withFetchWord 8 0x09)) accepted =
    some (.write, ⟨0x78#8, 0x66#8⟩, 0x01#8, 0x09#32) := by decide
theorem test_step_measureSL : shows (step (State.reset.withFetchWord 8 0x11)) accepted =
    some (.write, ⟨0x64#8, 0x58#8⟩, 0x01#8, 0x11#32) := by decide
theorem test_step_measurePL : shows (step (State.reset.withFetchWord 8 0x19)) accepted =
    some (.write, ⟨0x60#8, 0x9C#8⟩, 0x01#8, 0x19#32) := by decide
theorem test_step_isPresent : shows (step (State.reset.withFetchWord 8 0x02)) accepted =
    some (.write, ⟨0xEF#8, 0xC8#8⟩, 0x01#8, 0x02#32) := by decide
theorem test_step_sleep : shows (step (State.reset.withFetchWord 8 0x03)) accepted =
    some (.write, ⟨0xB0#8, 0x98#8⟩, 0x01#8, 0x03#32) := by decide
theorem test_step_wake : shows (step (State.reset.withFetchWord 8 0x04)) accepted =
    some (.write, ⟨0x35#8, 0x17#8⟩, 0x01#8, 0x04#32) := by decide

/-- What an answered command write shows: the waiting state, `PROBE_CNT`, `STATUS` and the trace. -/
def written (t : State) : Seq × BitVec 5 × Byte × List Transaction := (t.seq, t.probeCnt, statusByte t.status, t.trace)

theorem test_step_cmdGetId : shows (step (State.reset.withFetchWord 16 0xEFC8)) written =
    some (.read3, 0#5, 0x01#8, [.write 0x70#8 0xEF#8 0xC8#8 true]) := by decide
theorem test_step_cmdSleep : shows (step (State.reset.withFetchWord 16 0xB098)) written =
    some (.idle, 0#5, 0x06#8, [.write 0x70#8 0xB0#8 0x98#8 true]) := by decide
theorem test_step_cmdWake : shows (step (State.reset.withFetchWord 16 0x3517)) written =
    some (.idle, 0#5, 0x06#8, [.write 0x70#8 0x35#8 0x17#8 true]) := by decide
theorem test_step_cmdMeasNormalPolled : shows (step (State.reset.withFetchWord 16 0x7866)) written =
    some (.probe, 1#5, 0x01#8, [.write 0x70#8 0x78#8 0x66#8 true]) := by decide
theorem test_step_cmdMeasNormalStretched : shows (step (State.reset.withFetchWord 16 0x7CA2)) written =
    some (.read6, 0#5, 0x01#8, [.write 0x70#8 0x7C#8 0xA2#8 true]) := by decide
theorem test_step_cmdMeasLowPolled : shows (step (State.reset.withFetchWord 16 0x609C)) written =
    some (.probe, 1#5, 0x01#8, [.write 0x70#8 0x60#8 0x9C#8 true]) := by decide
theorem test_step_cmdMeasLowStretched : shows (step (State.reset.withFetchWord 16 0x6458)) written =
    some (.read6, 0#5, 0x01#8, [.write 0x70#8 0x64#8 0x58#8 true]) := by decide

/-- The state that waits for the 6-byte read of a Stretched MEASURE answered with `d`. -/
def read6With (ok : Bool) (d : RData) : State := waiting .read6 stretchedN ⟨0x7C#8, 0xA2#8⟩ [.tpDone ok d]

/-- What a completed MEASURE shows: `STATUS`, `T_RAW`, `RH_RAW`, `TEMP`, `RH`. -/
def results (t : State) : Byte × Raw16 × Raw16 × Word32 × Word32 := (statusByte t.status, t.tRaw, t.rhRaw, t.temp, t.rh)

/-- Row M1. -/
theorem test_measure_passes : shows (step (read6With true 0x6000D48000A2#48)) results =
    some (0x0E#8, 0x6000#16, 0x8000#16, 0x41A50000#32, 0x42480000#32) := by decide +kernel

/-- Row M17: minus 45 degrees and the highest humidity. -/
theorem test_measure_extremes : shows (step (read6With true 0x000081FFFFAC#48)) results =
    some (0x0E#8, 0x0000#16, 0xFFFF#16, 0xC2340000#32, 0x42C7FF38#32) := by decide +kernel

/-- Rows M4 and M5: one field wrong, the other right. -/
theorem test_temperature_mismatch : shows (step (read6With true 0x6000D58000A2#48)) results =
    some (0x82#8, 0#16, 0#16, 0#32, 0#32) := by decide +kernel
theorem test_humidity_mismatch : shows (step (read6With true 0x6000D48000A3#48)) results =
    some (0x82#8, 0#16, 0#16, 0#32, 0#32) := by decide +kernel

/-- Row M6: an all-zero reply. -/
theorem test_zero_reply_fails : shows (step (read6With true 0#48)) results = some (0x82#8, 0#16, 0#16, 0#32, 0#32) := by
  decide +kernel

/-- Row M3, with any bytes. -/
theorem test_failed_read : shows (step (read6With false 0x6000D48000A2#48)) results =
    some (0x62#8, 0#16, 0#16, 0#32, 0#32) := by decide

/-- Rows Q1 and Q2. -/
theorem test_presence : shows (step (waiting .read3 presenceL ⟨0xEF#8, 0xC8#8⟩ [.tpDone true 0x08875B000000#48]))
    (fun t => statusByte t.status) = some 0x06#8 := by decide +kernel
theorem test_presence_mismatch : shows (step (waiting .read3 presenceL ⟨0xEF#8, 0xC8#8⟩ [.tpDone true 0x08875A000000#48]))
    (fun t => statusByte t.status) = some 0x82#8 := by decide +kernel

/-- The polled loop with `n` probes issued, in `q`. -/
def polling (q : Seq) (n : BitVec 5) (es : List Input) : State :=
  { waiting q polledN ⟨0x78#8, 0x66#8⟩ es with probeCnt := n }

/-- Row M12: the twentieth failed probe is followed by a delay, and the delay by the final read. -/
theorem test_twentieth_probe_delays : shows (step (polling .probe 20#5 [.tpDone false 0#48])) (fun t => (t.seq, dlPort t)) =
    some (.delay, some 1#8) := by decide
theorem test_twentieth_delay_reads : shows (step (polling .delay 20#5 [.dlDone])) (fun t => (t.seq, t.probeCnt)) =
    some (.read6, 20#5) := by decide
theorem test_nineteenth_delay_probes : shows (step (polling .delay 19#5 [.dlDone])) (fun t => (t.seq, t.probeCnt)) =
    some (.probe, 20#5) := by decide

/-- Rows X2, X9 and X10. -/
theorem test_device_address_bits : shows (step (idleWith [.hostWrite 2#3 0x1FF#32])) (fun t => hreg t 2#3) =
    some 0xFF#32 := by decide
theorem test_reset_while_busy : shows (step (polling .probe 7#5 [.rst, .tpDone true 0#48]))
    (fun t => (t.seq, statusByte t.status, t.probeCnt)) = some (.idle, 0x00#8, 0#5) := by decide
theorem test_upper_request_bits_ignored : shows (step (idleWith [.hostWrite 0#3 0x101#32])) (fun t => t.cmd) =
    some ⟨0x7C#8, 0xA2#8⟩ := by decide

/-- Section 4: 0xFF is invalid, and `REQ` then reads 0x1F. -/
theorem test_invalid_request : shows (step (idleWith [.hostWrite 0#3 0xFF#32])) (fun t => (hreg t 1#3, hreg t 0#3, t.trace)) =
    some (0x22#32, 0x1F#32, []) := by decide

/-- Sections 1.2, 2.1 and 2.3. -/
theorem test_crc_vectors : [crc8 [], crc8 [0xBE#8, 0xEF#8], crc8 [0x68#8, 0x3A#8], crc8 [0x01#8, 0x02#8, 0x03#8],
    crcByte 0x5A#8 0xA5#8] = [0xFF#8, 0x92#8, 0xFD#8, 0x87#8, 0xAC#8] := by decide +kernel
theorem test_source_example_fails : validate [0x68#8, 0x3A#8] 0x7C#8 = false := by decide +kernel

/-- Section 5: the last negative and the first positive temperature. -/
theorem test_sign_change : [tempPattern 0x41D4#16, tempPattern 0x41D5#16] = [0xB9A00000#32, 0x3B1B0000#32] := by decide

/-! ### Witnesses: states and operands that meet the hypotheses of the statements -/

/-- The frame of row M1. -/
def good : RData := 0x6000D48000A2#48

/-- The frame of row M5. -/
def bad : RData := 0x6000D48000A3#48

theorem witness_StepRunsTheDecodedRequest :
    let s := idleWith [.hostWrite 0#3 0x101#32]
    s.seq = .idle ∧ s.inputs = [.hostWrite 0#3 0x101#32] ∧ decode [(0x101#32).setWidth 8] = .instr .measureSN := by decide

theorem witness_StepRunsTheDecodedCommand :
    let s := waiting .write presenceL ⟨0xEF#8, 0xC8#8⟩ [.tpDone true 0#48]
    s.seq = .write ∧ s.inputs = [.tpDone true 0#48] ∧ decode [s.cmd.b0, s.cmd.b1] = .instr .cmdGetId := by decide

theorem witness_DecodeAndEncodeAgree :
    Instr.wellFormed .wake = true ∧ decode [0x35#8, 0x17#8] = .instr .cmdWake := by decide

theorem witness_CommandTable :
    (0xEF#8, 0xC9#8) ∉ [((0xEF#8 : Byte), (0xC8#8 : Byte)), (0xB0#8, 0x98#8), (0x35#8, 0x17#8), (0x78#8, 0x66#8),
      (0x7C#8, 0xA2#8), (0x60#8, 0x9C#8), (0x64#8, 0x58#8)] := by decide

theorem witness_InvalidRequestFailsAtOnce :
    let s := idleWith [.hostWrite 0#3 0x21#32]
    s.seq = .idle ∧ s.inputs = [.hostWrite 0#3 0x21#32] ∧ validRequest ((0x21#32).setWidth 8) = false := by decide

theorem witness_BusyRequestIsDropped :
    let s := read6With true good
    s.seq ≠ .idle ∧ ({ s with inputs := [.hostWrite 0#3 0x03#32] } : State).inputs = [.hostWrite 0#3 0x03#32] := by decide

theorem witness_ReadOnlyWriteIsIgnored :
    (idleWith [.hostWrite 7#3 1#32]).inputs = [.hostWrite 7#3 1#32] ∧
    (idleWith [.hostWrite 1#3 1#32]).inputs = [.hostWrite 1#3 1#32] := by decide

theorem witness_HostReadChangesNothing : (idleWith [.hostRead 1#3]).inputs = [.hostRead 1#3] := by decide

theorem witness_DeviceAddressWrite :
    (idleWith [.hostWrite 2#3 0x44#32]).seq = .idle ∧
    (idleWith [.hostWrite 2#3 0x44#32]).inputs = [.hostWrite 2#3 0x44#32] ∧
    (polling .probe 1#5 [.hostWrite 2#3 0x44#32]).seq ≠ .idle ∧
    (polling .probe 1#5 [.hostWrite 2#3 0x44#32]).inputs = [.hostWrite 2#3 0x44#32] := by decide

theorem witness_OutstandingTransaction :
    State.reset.seq = .idle ∧ (waiting .write presenceL ⟨0xEF#8, 0xC8#8⟩ []).seq = .write ∧
    (polling .probe 1#5 []).seq = .probe ∧ (polling .delay 1#5 []).seq = .delay ∧
    (read6With true good).seq = .read6 ∧ (waiting .read3 presenceL ⟨0xEF#8, 0xC8#8⟩ []).seq = .read3 := by decide

theorem witness_ResetFromAnyState : (polling .probe 7#5 [.rst, .tpDone true 0#48]).inputs = [.rst, .tpDone true 0#48] := by
  decide

theorem witness_NothingWithoutAnAnswer :
    (polling .probe 1#5 []).inputs = [] ∧
    (idleWith [.tpDone true good]).inputs = [.tpDone true good] ∧ tpPort (idleWith [.tpDone true good]) = none ∧
    (polling .delay 1#5 [.tpDone true good]).inputs = [.tpDone true good] ∧
    tpPort (polling .delay 1#5 [.tpDone true good]) = none ∧
    (polling .probe 1#5 [.dlDone]).inputs = [.dlDone] ∧ dlPort (polling .probe 1#5 [.dlDone]) = none := by decide

/-- An idle block that has completed an operation, with `es` to come. -/
def completed (es : List Input) : State := { idleWith es with status := ⟨false, true, true, false, false, .none⟩ }

/-- One state for each clause: CONSTRUCT while idle; a WAIT that is over; one with host accesses only to come; one with an
answer behind a host access. -/
theorem witness_PseudoOperations :
    ((idleWith (expandPseudo (.construct 0x71#8) ++ [.hostRead 2#3])).seq = .idle) ∧
    (waitOver (completed (expandPseudo .wait ++ [.rst])) = true) ∧
    (waitOver (polling .probe 1#5 (expandPseudo .wait ++ [.hostRead 6#3])) = false ∧
      ∀ a ∈ [Input.hostRead 6#3], isHostAccess a = true) ∧
    (waitOver (polling .probe 1#5 (expandPseudo .wait ++ ([.hostRead 6#3] ++ .tpDone false 0#48 :: []))) = false ∧
      isHostAccess (.tpDone false 0#48) = false) := by decide

/-- A `WAIT` holds back the host and lets the answer through; with `DONE` = 1 it is over (R103). -/
theorem test_wait_holds_the_host :
    shows (step (polling .probe 1#5 [.hostWait, .hostWrite 0#3 3#32, .tpDone true 0#48])) (fun t => t.inputs) =
      some [.tpDone true 0#48, .hostWait, .hostWrite 0#3 3#32] := by decide
theorem test_wait_is_over :
    shows (step (completed [.hostWait, .hostWrite 0#3 3#32])) (fun t => t.inputs) = some [.hostWrite 0#3 3#32] := by decide

theorem witness_MeasureRequestsAccepted : State.reset.seq = .idle := by decide

theorem witness_PeripheralRequestsAccepted : State.reset.seq = .idle := by decide

theorem witness_StretchedCommandsWritten :
    let n := waiting .write stretchedN ⟨0x7C#8, 0xA2#8⟩ [.tpDone true 0#48]
    let l := waiting .write ⟨1#3, .stretched, .low⟩ ⟨0x64#8, 0x58#8⟩ [.tpDone true 0#48]
    (n.seq = .write ∧ n.inputs = [.tpDone true 0#48] ∧ n.opl.op = 1#3 ∧ n.opl.timing = .stretched ∧
      n.cmd = ⟨0x7C#8, 0xA2#8⟩) ∧
    (l.seq = .write ∧ l.inputs = [.tpDone true 0#48] ∧ l.opl.op = 1#3 ∧ l.opl.timing = .stretched ∧
      l.cmd = ⟨0x64#8, 0x58#8⟩) := by decide

theorem witness_PolledCommandsWritten :
    let n := waiting .write polledN ⟨0x78#8, 0x66#8⟩ [.tpDone true 0#48]
    let l := waiting .write ⟨1#3, .polled, .low⟩ ⟨0x60#8, 0x9C#8⟩ [.tpDone true 0#48]
    (n.seq = .write ∧ n.inputs = [.tpDone true 0#48] ∧ n.opl.op = 1#3 ∧ n.opl.timing = .polled ∧
      n.cmd = ⟨0x78#8, 0x66#8⟩) ∧
    (l.seq = .write ∧ l.inputs = [.tpDone true 0#48] ∧ l.opl.op = 1#3 ∧ l.opl.timing = .polled ∧
      l.cmd = ⟨0x60#8, 0x9C#8⟩) := by decide

theorem witness_GetIdCommandWritten :
    let s := waiting .write presenceL ⟨0xEF#8, 0xC8#8⟩ [.tpDone true 0#48]
    s.seq = .write ∧ s.inputs = [.tpDone true 0#48] ∧ s.opl.op = 2#3 ∧ s.cmd = ⟨0xEF#8, 0xC8#8⟩ := by decide

theorem witness_SleepWakeCommandsWritten :
    let s := waiting .write ⟨3#3, .stretched, .normal⟩ ⟨0xB0#8, 0x98#8⟩ [.tpDone true 0#48]
    let w := waiting .write ⟨4#3, .stretched, .normal⟩ ⟨0x35#8, 0x17#8⟩ [.tpDone true 0#48]
    (s.seq = .write ∧ s.inputs = [.tpDone true 0#48] ∧ s.opl.op = 3#3 ∧ s.cmd = ⟨0xB0#8, 0x98#8⟩) ∧
    (w.seq = .write ∧ w.inputs = [.tpDone true 0#48] ∧ w.opl.op = 4#3 ∧ w.cmd = ⟨0x35#8, 0x17#8⟩) := by decide

theorem witness_FailedCommandWrites :
    let s := waiting .write polledN ⟨0x78#8, 0x66#8⟩ [.tpDone false 0#48]
    (Instr.cmdMeasNormalPolled, 0x78#8, 0x66#8) ∈
      [(Instr.cmdGetId, (0xEF#8 : Byte), (0xC8#8 : Byte)), (.cmdMeasNormalPolled, 0x78#8, 0x66#8)] ∧
    s.seq = .write ∧ s.cmd = ⟨0x78#8, 0x66#8⟩ ∧ s.inputs = [.tpDone false 0#48] := by decide

/-- One state for each way a wire command is not answered: nothing has come, another state waits, another command is out. -/
theorem witness_CommandsNotAnswered :
    (waiting .write presenceL ⟨0xEF#8, 0xC8#8⟩ []).inputs = [] ∧
    (waiting .write presenceL ⟨0xEF#8, 0xC8#8⟩ []).cmd = ⟨0xEF#8, 0xC8#8⟩ ∧
    State.reset.seq ≠ .write ∧
    (waiting .write presenceL ⟨0xEF#8, 0xC8#8⟩ []).cmd ≠ ⟨0x35#8, 0x17#8⟩ := by decide

theorem witness_ProbeSucceeded : (polling .probe 3#5 [.tpDone true 0x5A0000000000#48]).seq = .probe ∧
    (polling .probe 3#5 [.tpDone true 0x5A0000000000#48]).inputs = [.tpDone true 0x5A0000000000#48] := by decide

theorem witness_ProbeFailed : (polling .probe 20#5 [.tpDone false 0#48]).seq = .probe ∧
    (polling .probe 20#5 [.tpDone false 0#48]).inputs = [.tpDone false 0#48] := by decide

/-- Both sides of the bound. -/
theorem witness_DelayReturned :
    ((polling .delay 19#5 [.dlDone]).seq = .delay ∧ (polling .delay 19#5 [.dlDone]).inputs = [.dlDone] ∧
      (polling .delay 19#5 [.dlDone]).probeCnt.toNat < 20) ∧
    ((polling .delay 20#5 [.dlDone]).seq = .delay ∧ (polling .delay 20#5 [.dlDone]).inputs = [.dlDone] ∧
      ¬ (polling .delay 20#5 [.dlDone]).probeCnt.toNat < 20) := by decide

theorem witness_FinalReadFailed :
    (read6With false good).inputs = [.tpDone false good] ∧ (read6With false good).seq = .read6 ∧
    (waiting .read3 presenceL ⟨0xEF#8, 0xC8#8⟩ [.tpDone false good]).seq = .read3 := by decide

theorem witness_MeasurementCommitted :
    (read6With true good).seq = .read6 ∧ (read6With true good).inputs = [.tpDone true good] ∧
    crc8 [rdataByte good 0, rdataByte good 1] = rdataByte good 2 ∧
    crc8 [rdataByte good 3, rdataByte good 4] = rdataByte good 5 := by decide +kernel

theorem witness_MeasurementRejected :
    (read6With true bad).seq = .read6 ∧ (read6With true bad).inputs = [.tpDone true bad] ∧
    crc8 [rdataByte bad 3, rdataByte bad 4] ≠ rdataByte bad 5 ∧
    crc8 [rdataByte (0x6000D58000A2#48) 0, rdataByte (0x6000D58000A2#48) 1] ≠ rdataByte (0x6000D58000A2#48) 2 := by decide +kernel

theorem witness_PresenceReplyChecked :
    let s := waiting .read3 presenceL ⟨0xEF#8, 0xC8#8⟩ [.tpDone true 0x08875B000000#48]
    s.seq = .read3 ∧ s.inputs = [.tpDone true 0x08875B000000#48] := by decide

theorem witness_CrcBitStep : (0x80#8).getLsbD 7 = true := by decide

theorem witness_CrcLinear : [(0xBE#8 : Byte), 0xEF#8].length = [(0x01#8 : Byte), 0x31#8].length := by decide

theorem witness_SingleBitErrorsDetected : 0 < 8 ∧ 7 < 8 := by decide

/-- The first and the last burst position. -/
theorem witness_BurstErrorsDetected : (0x81#8 : Byte) ≠ 0#8 ∧ 0 ≤ 16 ∧ 16 ≤ 16 := by decide

/-- The largest numerators, of both signs. -/
theorem witness_FloatPatternExact : Int.natAbs 16777215 < 2 ^ 24 ∧ Int.natAbs (-16777215) < 2 ^ 24 ∧ Int.natAbs 0 < 2 ^ 24 := by
  decide

theorem witness_ConversionInjective : (0x41D4#16 : Raw16) < 0x41D5#16 ∧ tempPattern 0x6000#16 = tempPattern 0x6000#16 ∧
    rhPattern 0x6000#16 = rhPattern 0x6000#16 := by decide

/-! Invariants of a running operation: a Polled MEASURE that waits for its third probe, and one whose probes are exhausted. -/

/-- The trace of `n` failed probes after a successful command write. -/
def polledTrace (n : Nat) : List Transaction := .write 0x70#8 0x78#8 0x66#8 true :: probeRounds 0x70#8 n

/-- Waiting for the third probe, answered with `ok`. -/
def thirdProbe (ok : Bool) : State := { polling .probe 3#5 [.tpDone ok 0#48] with trace := polledTrace 2 }

/-- Waiting for the final read after twenty failed probes, answered with `d`. -/
def exhausted (ok : Bool) (d : RData) : State := { polling .read6 20#5 [.tpDone ok d] with trace := polledTrace 20 }

theorem thirdProbe_control : ControlInv (thirdProbe true) := by
  constructor <;> constructor <;> decide

theorem thirdProbe_trace : TraceInv (thirdProbe true) := by
  constructor <;> first | decide | (intro h; exact absurd h (by decide))

theorem exhausted_control : ControlInv (exhausted true good) := by
  constructor <;> constructor <;> decide

theorem exhausted_trace : TraceInv (exhausted true good) := by
  constructor <;> first | decide | (intro h; exact absurd h (by decide))

theorem witness_StepKeepsControl : ControlInv (thirdProbe true) ∧ ∃ t, step (thirdProbe true) = .next t :=
  ⟨thirdProbe_control, _, rfl⟩

theorem witness_StepKeepsTrace :
    ControlInv (thirdProbe true) ∧ TraceInv (thirdProbe true) ∧ ∃ t, step (thirdProbe true) = .next t :=
  ⟨thirdProbe_control, thirdProbe_trace, _, rfl⟩

theorem witness_SequencerNeverStuck : ControlInv (thirdProbe true) := thirdProbe_control

theorem witness_StatusValues : ControlInv (exhausted true good) := exhausted_control

theorem witness_ValidationGate :
    shows (step (exhausted true good)) (fun t => t.status.measValid) = some true ∧
    (exhausted true good).status.measValid = false := by decide +kernel

theorem witness_ResultDependsOnReplyAlone :
    ControlInv (exhausted true good) ∧ (exhausted true good).seq = .read6 ∧
    (exhausted true good).inputs = [.tpDone true good] ∧ ∃ t, step (exhausted true good) = .next t :=
  ⟨exhausted_control, rfl, rfl, _, rfl⟩

theorem witness_OperationInputsStable :
    (thirdProbe true).seq ≠ .idle ∧ shows (step (thirdProbe true)) (fun t => t.seq) = some .read6 := by decide

theorem witness_TransactionCounts : FinishedTrace polledN (polledTrace 20 ++ [.read6 0x70#8 none]) :=
  ⟨0x70#8, ⟨0x78#8, 0x66#8⟩, rfl, .inr (.inr (.inr (.inr (.inr ⟨rfl, rfl, none, rfl⟩))))⟩

theorem witness_TransactionCounts_hit :
    FinishedTrace polledN (polledTrace 19 ++ [.read1 0x70#8 true, .read6 0x70#8 none]) :=
  ⟨0x70#8, ⟨0x78#8, 0x66#8⟩, rfl, .inr (.inr (.inr (.inr (.inl ⟨rfl, rfl, 19, none, by decide, rfl⟩))))⟩

theorem witness_ExhaustionTakesTwentyDelays :
    ControlInv (exhausted true good) ∧ TraceInv (exhausted true good) ∧ (exhausted true good).seq = .read6 ∧
    (exhausted true good).opl.timing = .polled ∧ (exhausted true good).status.probeHit = false :=
  ⟨exhausted_control, exhausted_trace, rfl, rfl, rfl⟩

theorem witness_AnswersAlwaysProgress :
    ControlInv (thirdProbe true) ∧ (thirdProbe true).seq ≠ .idle ∧
    (thirdProbe true).inputs = [answerInput (thirdProbe true) (true, 0#48)] ∧ ∃ t, step (thirdProbe true) = .next t :=
  ⟨thirdProbe_control, by decide, rfl, _, rfl⟩

theorem witness_OperationsEnd :
    ControlInv (thirdProbe true) ∧ (thirdProbe true).seq ≠ .idle ∧ (List.replicate 42 (false, good)).length = 42 :=
  ⟨thirdProbe_control, by decide, by decide⟩

theorem witness_StretchedMeasureWhole :
    let s := idleWith [.hostWrite 0#3 0x01#32, .tpDone true 0#48, .tpDone true good]
    s.seq = .idle ∧ (0x01#32).setWidth 8 = 0x01#8 ∧ (0x11#32).setWidth 8 = 0x11#8 ∧
    s.inputs = [.hostWrite 0#3 0x01#32, .tpDone true 0#48, .tpDone true good] := by decide

theorem witness_WaitReturnsWhenDone :
    let s := idleWith (.hostWrite 0#3 0x11#32 :: (expandPseudo .wait ++
      ([.hostRead 6#3, .hostWrite 0#3 3#32] ++ .tpDone true 0#48 :: .tpDone true good :: [])))
    s.seq = .idle ∧ (∀ a ∈ [Input.hostRead 6#3, .hostWrite 0#3 3#32], isHostAccess a = true) ∧
    (0x01#32).setWidth 8 = 0x01#8 ∧ (0x11#32).setWidth 8 = 0x11#8 ∧
    s.inputs = .hostWrite 0#3 0x11#32 :: (expandPseudo .wait ++
      ([.hostRead 6#3, .hostWrite 0#3 3#32] ++ .tpDone true 0#48 :: .tpDone true good :: [])) := by decide

theorem witness_PolledMeasureWhole :
    let s := idleWith (.hostWrite 0#3 0x09#32 :: .tpDone true 0#48 ::
      (failedProbes [0#48, 1#48] ++ [.tpDone true 0#48, .tpDone true good]))
    s.seq = .idle ∧ [(0#48 : RData), 1#48].length < 20 ∧ (0x09#32).setWidth 8 = 0x09#8 ∧
    s.inputs = .hostWrite 0#3 0x09#32 :: .tpDone true 0#48 ::
      (failedProbes [0#48, 1#48] ++ .tpDone true 0#48 :: .tpDone true good :: []) := by decide

theorem witness_ExhaustedMeasureWhole :
    let s := idleWith (.hostWrite 0#3 0x19#32 :: .tpDone true 0#48 ::
      (failedProbes (List.replicate 20 0#48) ++ [.tpDone true good]))
    s.seq = .idle ∧ (List.replicate 20 (0#48 : RData)).length = 20 ∧ (0x19#32).setWidth 8 = 0x19#8 ∧
    s.inputs = .hostWrite 0#3 0x19#32 :: .tpDone true 0#48 ::
      (failedProbes (List.replicate 20 0#48) ++ .tpDone true good :: []) := by decide

theorem witness_PresenceCheckWhole :
    let s := idleWith [.hostWrite 0#3 0x02#32, .tpDone true 0#48, .tpDone true 0x08875B000000#48]
    s.seq = .idle ∧ (0x02#32).setWidth 8 = 0x02#8 ∧
    s.inputs = [.hostWrite 0#3 0x02#32, .tpDone true 0#48, .tpDone true 0x08875B000000#48] := by decide

theorem witness_SleepWakeWhole :
    let s := idleWith [.hostWrite 0#3 0x04#32, .tpDone false 0#48]
    s.seq = .idle ∧ (0x03#32).setWidth 8 = 0x03#8 ∧ (0x04#32).setWidth 8 = 0x04#8 ∧
    s.inputs = [.hostWrite 0#3 0x04#32, .tpDone false 0#48] := by decide

end Sys2Proof.Tests
end

section
/-! PROOFS. The rows of the step relation R175, as an inversion of `step`: every statement about all steps is proved row by row. -/

namespace Sys2Proof.Machine

open Sys2Proof.Safety

/-- Rows T1 to T20 of R175, with the reset and the inputs that change no register: what the input `e` makes of the state `u` past
it. Each next state is written with the named operations of Machine/Ops.lean. -/
inductive Row : Input → State → State → Prop
  | ignored (e : Input) (u : State) (es : List Input) : Row e u { u with inputs := es }
  | reset (u : State) : Row .rst u (resetEffect u)
  | addressed (data : Word32) (u : State) : u.seq = .idle →
      Row (.hostWrite 2#3 data) u { u with devAddr := addressByte data }
  | refused (data : Word32) (u : State) : u.seq = .idle → validRequest (requestWord data) = false →
      Row (.hostWrite 0#3 data) u (raiseFail .invalidReq (latchRequest (requestWord data) u))
  | accepted (data : Word32) (c : Command) (u : State) : u.seq = .idle →
      validRequest (requestWord data) = true → selectCommand (latchOf (requestWord data)) = some c →
      Row (.hostWrite 0#3 data) u (issueWrite { latchRequest (requestWord data) u with cmd := c })
  | writeFailed (d : RData) (u : State) : u.seq = .write →
      Row (.tpDone false d) u (raiseFail .writeFailed (record (.write u.devAddr u.cmd.b0 u.cmd.b1 false) u))
  | stretchedWritten (d : RData) (u : State) : u.seq = .write → u.opl.op = 1#3 → u.opl.timing = .stretched →
      Row (.tpDone true d) u (issueRead6 (record (.write u.devAddr u.cmd.b0 u.cmd.b1 true) u))
  | polledWritten (d : RData) (u : State) : u.seq = .write → u.opl.op = 1#3 → u.opl.timing = .polled →
      Row (.tpDone true d) u (issueProbe 1#5 (record (.write u.devAddr u.cmd.b0 u.cmd.b1 true) u))
  | presenceWritten (d : RData) (u : State) : u.seq = .write → u.opl.op = 2#3 →
      Row (.tpDone true d) u (issueRead3 (record (.write u.devAddr u.cmd.b0 u.cmd.b1 true) u))
  | powerWritten (d : RData) (u : State) : u.seq = .write → u.opl.op = 3#3 ∨ u.opl.op = 4#3 →
      Row (.tpDone true d) u (completePass (record (.write u.devAddr u.cmd.b0 u.cmd.b1 true) u))
  | probeHit (d : RData) (u : State) : u.seq = .probe →
      Row (.tpDone true d) u
        (issueRead6 { record (.read1 u.devAddr true) u with status := statusProbeHit u.status })
  | probeMissed (d : RData) (u : State) : u.seq = .probe →
      Row (.tpDone false d) u (issueDelay (record (.read1 u.devAddr false) u))
  | nextProbe (u : State) : u.seq = .delay → u.probeCnt < Config.probeMax →
      Row .dlDone u (issueProbe (u.probeCnt + 1#5) (record (.delay Config.probeDelay) u))
  | probesExhausted (u : State) : u.seq = .delay → ¬ u.probeCnt < Config.probeMax →
      Row .dlDone u (issueRead6 (record (.delay Config.probeDelay) u))
  | read6Failed (d : RData) (u : State) : u.seq = .read6 →
      Row (.tpDone false d) u (raiseFail .readFailed (spoilReply (record (.read6 u.devAddr none) u)))
  | measured (d : RData) (c : Byte) (u : State) : u.seq = .read6 → framePasses (replyOf d) = true →
      Row (.tpDone true d) u
        (completePass (commitResults (dec6 (replyOf d)).1 (dec6 (replyOf d)).2
          { record (.read6 u.devAddr (some (replyOf d))) u with rx := replyOf d, crc := c }))
  | frameMismatch (d : RData) (c : Byte) (u : State) : u.seq = .read6 →
      Row (.tpDone true d) u
        (raiseFail .crcMismatch
          { record (.read6 u.devAddr (some (replyOf d))) u with rx := replyOf d, crc := c })
  | read3Failed (d : RData) (u : State) : u.seq = .read3 →
      Row (.tpDone false d) u (raiseFail .readFailed (spoilReply (record (.read3 u.devAddr none) u)))
  | present (d : RData) (id : Byte × Byte × Byte) (rx : Reply) (c : Byte) (u : State) : u.seq = .read3 →
      Row (.tpDone true d) u (completePass { record (.read3 u.devAddr (some id)) u with rx := rx, crc := c })
  | presenceMismatch (d : RData) (id : Byte × Byte × Byte) (rx : Reply) (c : Byte) (u : State) :
      u.seq = .read3 →
      Row (.tpDone true d) u
        (raiseFail .crcMismatch { record (.read3 u.devAddr (some id)) u with rx := rx, crc := c })

/-! ### Each answer is a row -/

theorem row_of_hostWrite (sel : BitVec 3) (data : Word32) (u : State) :
    Row (.hostWrite sel data) u (hostWriteEffect sel data u) := by
  unfold hostWriteEffect
  split
  case isTrue hsel =>
    subst hsel
    by_cases hidle : u.seq = .idle
    · rw [hostRequest_idle hidle]
      cases hv : validRequest (requestWord data) with
      | false => rw [acceptRequest_invalid hv]; exact .refused data u hidle hv
      | true =>
        obtain ⟨c, hc, heq⟩ := acceptRequest_spec hv u
        rw [heq]; exact .accepted data c u hidle hv hc
    · rw [hostRequest_busy hidle]; exact .ignored _ u u.inputs
  case isFalse =>
    split
    case isTrue hsel =>
      subst hsel
      by_cases hidle : u.seq = .idle
      · have heq : writeDevAddr data u = { u with devAddr := addressByte data } := by simp [writeDevAddr, hidle]
        rw [heq]; exact .addressed data u hidle
      · rw [writeDevAddr_busy hidle]; exact .ignored _ u u.inputs
    case isFalse => exact .ignored _ u u.inputs

theorem row_of_answerWrite {ok : Bool} {d : RData} {u t : State} (hs : u.seq = .write)
    (h : answerWrite ok u = .next t) : Row (.tpDone ok d) u t := by
  cases ok with
  | false => cases h; exact .writeFailed d u hs
  | true =>
    rcases afterWrite_cases (show afterWrite (record _ u) = .next t from h) with
      ⟨hop, htm, rfl⟩ | ⟨hop, htm, rfl⟩ | ⟨hop, rfl⟩ | ⟨hop, rfl⟩
    · exact .stretchedWritten d u hs hop htm
    · exact .polledWritten d u hs hop htm
    · exact .presenceWritten d u hs hop
    · exact .powerWritten d u hs hop

theorem row_of_answerProbe {u : State} (hs : u.seq = .probe) (ok : Bool) (d : RData) :
    Row (.tpDone ok d) u (answerProbe ok u) := by
  cases ok with
  | false => exact .probeMissed d u hs
  | true => exact .probeHit d u hs

theorem row_of_answerRead6 {u : State} (hs : u.seq = .read6) (ok : Bool) (d : RData) :
    Row (.tpDone ok d) u (answerRead6 ok d u) := by
  cases ok with
  | false => exact .read6Failed d u hs
  | true =>
    simp only [answerRead6, if_true, frameCommit_eq]
    split
    case isTrue hf => exact .measured d _ u hs hf
    case isFalse => exact .frameMismatch d _ u hs

theorem row_of_answerRead3 {u : State} (hs : u.seq = .read3) (ok : Bool) (d : RData) :
    Row (.tpDone ok d) u (answerRead3 ok d u) := by
  cases ok with
  | false => exact .read3Failed d u hs
  | true =>
    simp only [answerRead3, if_true, presenceCheck_eq]
    split
    case isTrue => exact .present d _ _ _ u hs
    case isFalse => exact .presenceMismatch d _ _ _ u hs

theorem row_of_delayReturn (u : State) : Row .dlDone u (delayReturn u) := by
  by_cases hs : u.seq = .delay
  · have heq : delayReturn u = answerDelay u := by simp [delayReturn, hs]
    rw [heq]
    rcases answerDelay_cases u with ⟨hc, heq⟩ | ⟨hc, heq⟩
    · rw [heq]; exact .nextProbe u hs hc
    · rw [heq]; exact .probesExhausted u hs hc
  · have heq : delayReturn u = u := by cases hq : u.seq <;> simp_all [delayReturn]
    rw [heq]; exact .ignored _ u u.inputs

/-- What an input does to the state past it is one of the rows. -/
theorem row_of_reactTo {e : Input} {u t : State} (h : reactTo e u = .next t) : Row e u t := by
  cases e with
  | hostWrite sel data => cases h; exact row_of_hostWrite sel data u
  | hostRead sel => cases h; exact .ignored _ u u.inputs
  | hostWait => cases h; exact .ignored _ u _
  | tpDone ok d =>
    rcases transportAnswer_cases h with ⟨-, rfl⟩ | ⟨hs, ha⟩ | ⟨hs, rfl⟩ | ⟨hs, rfl⟩ | ⟨hs, rfl⟩
    · exact .ignored _ t t.inputs
    · exact row_of_answerWrite hs ha
    · exact row_of_answerProbe hs ok d
    · exact row_of_answerRead6 hs ok d
    · exact row_of_answerRead3 hs ok d
  | dlDone => cases h; exact row_of_delayReturn u
  | rst => cases h; exact .reset u

/-- The step relation: a step either leaves the state as it is or takes one input by one row. -/
theorem step_row {s t : State} (h : step s = .next t) :
    (s.inputs = [] ∧ t = s) ∨ ∃ e u, s.inputs = e :: u.inputs ∧ u = { s with inputs := u.inputs } ∧ Row e u t :=
  (step_next_cases h).imp_right fun ⟨e, u, hi, hu, hr⟩ => ⟨e, u, hi, hu, row_of_reactTo hr⟩

/-- A step keeps every predicate that does not read the inputs to come and that every row keeps. -/
theorem step_keeps_of_rows {P : State → Prop} (hinputs : ∀ s es, P s → P { s with inputs := es })
    (hrow : ∀ e u t, Row e u t → P u → P t) {s t : State} (hs : P s) (h : step s = .next t) : P t := by
  rcases step_row h with ⟨-, rfl⟩ | ⟨e, u, -, hu, hr⟩
  · exact hs
  · exact hrow e u t hr (hu ▸ hinputs s u.inputs hs)

end Sys2Proof.Machine
end

section
/-! PROOFS. The invariant of the registers (O43, O44): what each named operation of Machine/Ops.lean does to it, then each row of
R175 as a composition of those operations. -/

namespace Sys2Proof.Safety

open Sys2Proof.Machine

/-! ### What the invariant says of a running operation -/

theorem ControlInv.status_running {s : State} (h : ControlInv s) (hb : s.seq ≠ .idle) (hit : Bool) :
    { s.status with probeHit := hit } = ⟨true, false, false, false, hit, .none⟩ := by
  have hbusy := h.status.busy.mpr hb
  obtain ⟨hdone, hok, hvalid, herr⟩ := h.status.running hbusy
  simp only [hbusy, hdone, hok, hvalid, herr]

theorem ControlInv.measValid_running {s : State} (h : ControlInv s) (hb : s.seq ≠ .idle) :
    s.status.measValid = false :=
  congrArg Status.measValid (h.status_running hb s.status.probeHit)

/-- The invariant of a busy block, from what its registers hold. -/
theorem ControlInv.of_running {s : State} (hb : s.seq ≠ .idle)
    (hstatus : s.status = ⟨true, false, false, false, s.status.probeHit, .none⟩)
    (hlatch : LatchInv s) (hprobe : ProbeInv s)
    (hzero : s.tRaw = 0#16 ∧ s.rhRaw = 0#16 ∧ s.temp = 0#32 ∧ s.rh = 0#32) : ControlInv s where
  status := by
    have hhit : s.status.probeHit = true → s.opl.op = 1#3 ∧ s.opl.timing = .polled :=
      fun h => hprobe.polledOnly (hprobe.hitCounted h)
    constructor <;> rw [hstatus] <;> simp [hb]
    exact hhit
  latch := hlatch
  probe := hprobe
  result := ⟨fun _ => hzero, by rw [hstatus]; simp⟩

/-! ### What the invariant does not read -/

/-- The invariant reads neither the address nor the model's own fields. -/
theorem ControlInv.frame {s : State} (h : ControlInv s) (a : Byte) (es : List Input) (tr : List Transaction) (n : Nat) :
    ControlInv { s with devAddr := a, inputs := es, trace := tr, draws := n } where
  status := { h.status with }
  latch := { h.latch with }
  probe := { h.probe with }
  result := { h.result with }

/-- While busy the invariant does not read the reply buffer either: there is no Measurement that its bytes would have to back. -/
theorem ControlInv.frame_reply {s : State} (h : ControlInv s) (hb : s.seq ≠ .idle) (rx : Reply) (c : Byte) :
    ControlInv { s with rx := rx, crc := c } where
  status := { h.status with }
  latch := { h.latch with }
  probe := { h.probe with }
  result :=
    { absent := h.result.absent
      validated := fun hv => absurd (h.measValid_running hb) (by simp [show s.status.measValid = true from hv]) }

theorem ControlInv.record {s : State} (h : ControlInv s) (tr : Transaction) : ControlInv (record tr s) :=
  h.frame s.devAddr s.inputs (s.trace ++ [tr]) s.draws

theorem ControlInv.spoilReply {s : State} (h : ControlInv s) (hb : s.seq ≠ .idle) : ControlInv (spoilReply s) :=
  (h.frame_reply hb (unspecifiedReply s.draws) s.crc).frame s.devAddr s.inputs s.trace (s.draws + 1)

/-! ### The end of an operation -/

/-- `raise Fail(kind)` of a running operation; the command write fails before any probe can have succeeded. -/
theorem ControlInv.raiseFail {s : State} (h : ControlInv s) (hb : s.seq ≠ .idle) {kind : ErrKind}
    (hnone : kind ≠ .none) (hhit : s.status.probeHit = true → kind ≠ .invalidReq ∧ kind ≠ .writeFailed) :
    ControlInv (raiseFail kind s) where
  status := by
    constructor <;> simp [hnone]
    intro hp
    obtain ⟨hop, htm, -, -⟩ := h.status.hit hp
    exact ⟨hop, htm, hhit hp⟩
  latch := by constructor <;> simp
  probe := by
    constructor <;> simp
    · exact h.probe.bounded
    · exact h.probe.polledOnly
    · exact h.probe.hitCounted
  result := ⟨fun _ => h.result.absent (h.measValid_running hb), by simp⟩

/-- `complete Pass` of a running operation: with a Measurement, just committed, if and only if it is a MEASURE. -/
theorem ControlInv.completePass {s s' : State} (h : ControlInv s) (hopl : s'.opl = s.opl)
    (hcount : s'.probeCnt = s.probeCnt) (hhit : s'.status.probeHit = s.status.probeHit)
    (hvalid : s'.status.measValid = true ↔ s.opl.op = 1#3) (hresult : ResultInv s') :
    ControlInv (completePass s') where
  status := by
    constructor <;> simp [hopl, hhit, hvalid]
    intro hp
    obtain ⟨hop, htm, -, -⟩ := h.status.hit hp
    exact ⟨hop, htm⟩
  latch := by constructor <;> simp
  probe := by
    constructor <;> simp [hopl, hcount, hhit]
    · exact h.probe.bounded
    · exact h.probe.polledOnly
    · exact h.probe.hitCounted
  result := { hresult with }

/-- An operation without a Measurement completes. -/
theorem ControlInv.completePass_peripheral {s : State} (h : ControlInv s) (hb : s.seq ≠ .idle)
    (hop : s.opl.op ≠ 1#3) : ControlInv (Machine.completePass s) :=
  h.completePass rfl rfl rfl (by simp [h.measValid_running hb, hop]) h.result

/-- The results of a reply that passes both checks meet the gate of R127. -/
theorem resultInv_commitResults {s : State} {r : Reply} (hrx : s.rx = r) (hpass : framePasses r = true) :
    ResultInv (commitResults (dec6 r).1 (dec6 r).2 s) where
  absent := by simp
  validated := fun _ => by
    subst hrx
    obtain ⟨hT, hH⟩ := (Bool.and_eq_true _ _).mp hpass
    exact ⟨hT, hH, rfl, rfl, rfl, rfl⟩

/-! ### Acceptance -/

/-- An invalid request, accepted and failed (R162). -/
theorem controlInv_refused {s : State} (w : Byte) :
    ControlInv (Machine.raiseFail .invalidReq (latchRequest w s)) where
  status := by constructor <;> simp
  latch := by constructor <;> simp
  probe := by constructor <;> simp [Config.probeMax]
  result := by constructor <;> simp

/-- A valid request, accepted with its command (R161, R163). -/
theorem controlInv_accepted {s : State} {w : Byte} {c : Command} (hv : validRequest w = true)
    (hc : selectCommand (latchOf w) = some c) : ControlInv (issueWrite { latchRequest w s with cmd := c }) := by
  refine .of_running (by simp) (by simp [statusBusy, statusAccepted]) ?_ ?_ (by simp)
  · constructor <;> simp
    exact ⟨reqReadByte_latchOf_valid w hv, hc⟩
  · constructor <;> simp [Config.probeMax]

/-! ### Reset, and the counter -/

/-- The state after reset (R38). -/
theorem controlInv_reset : ControlInv State.reset where
  status := by constructor <;> decide
  latch := by constructor <;> decide
  probe := by constructor <;> decide
  result := by constructor <;> decide

/-- Below `PROBE_MAX` the next ordinal is one of R24's. -/
theorem probeCnt_succ : ∀ {n : BitVec 5}, n < Config.probeMax → n + 1#5 ≠ 0#5 ∧ n + 1#5 ≤ Config.probeMax := by
  decide

/-- Within the bound of R24, "not below `PROBE_MAX`" is "equal to it". -/
theorem probeCnt_exhausted {n : BitVec 5} (hle : n ≤ Config.probeMax) (hge : ¬ n < Config.probeMax) :
    n = Config.probeMax :=
  BitVec.le_antisymm hle (BitVec.not_lt.mp hge)

/-! ### The next transaction of a running operation -/

/-- A running operation goes on to the waiting state `q`: what is left to show is that `q` belongs to it, and `PROBE_CNT`. -/
theorem ControlInv.goOn {s : State} (h : ControlInv s) (hb : s.seq ≠ .idle) {q : Seq} {n : BitVec 5} {hit : Bool}
    (hq : q ≠ .idle) (hprobing : q = .probe ∨ q = .delay → s.opl.op = 1#3 ∧ s.opl.timing = .polled)
    (hmeasuring : q = .read6 → s.opl.op = 1#3) (hpresence : q = .read3 → s.opl.op = 2#3)
    (hprobe : ProbeInv { s with seq := q, probeCnt := n, status := { s.status with probeHit := hit } }) :
    ControlInv { s with seq := q, probeCnt := n, status := { s.status with probeHit := hit } } :=
  .of_running hq (h.status_running hb hit)
    { latched := fun _ => h.latch.latched hb, probing := hprobing, measuring := hmeasuring, presence := hpresence }
    hprobe (h.result.absent (h.measValid_running hb))

/-- The first or the next probe is issued; `n` is its ordinal (R166, R169). -/
theorem ControlInv.issueProbe {s : State} (h : ControlInv s) (hb : s.seq ≠ .idle) (hop : s.opl.op = 1#3)
    (htm : s.opl.timing = .polled) (hhit : s.status.probeHit = false) {n : BitVec 5} (hpos : n ≠ 0#5)
    (hmax : n ≤ Config.probeMax) : ControlInv (issueProbe n s) :=
  h.goOn hb (hit := s.status.probeHit) (by simp) (fun _ => ⟨hop, htm⟩) (by simp) (by simp)
    { bounded := hmax
      polledOnly := fun _ => ⟨hop, htm⟩
      beforeProbes := by simp
      duringProbes := fun _ => ⟨hpos, hhit⟩
      afterProbes := by simp
      hitCounted := fun _ => hpos }

/-- A failed probe is followed by a delay (R168). -/
theorem ControlInv.issueDelay {s : State} (h : ControlInv s) (hs : s.seq = .probe) : ControlInv (issueDelay s) :=
  h.goOn (by simp [hs]) (n := s.probeCnt) (hit := s.status.probeHit) (by simp)
    (fun _ => h.latch.probing (.inl hs)) (by simp) (by simp)
    { bounded := h.probe.bounded
      polledOnly := h.probe.polledOnly
      beforeProbes := by simp
      duringProbes := fun _ => h.probe.duringProbes (.inl hs)
      afterProbes := by simp
      hitCounted := h.probe.hitCounted }

/-- The final read of a MEASURE is issued: at once when Stretched, else after a hit or after the last probe (R164, R167, R169). -/
theorem ControlInv.issueRead6 {s : State} (h : ControlInv s) (hb : s.seq ≠ .idle) (hop : s.opl.op = 1#3) {hit : Bool}
    (hafter : s.opl.timing = .polled → s.probeCnt ≠ 0#5 ∧ (hit = false → s.probeCnt = Config.probeMax))
    (hcounted : hit = true → s.probeCnt ≠ 0#5) :
    ControlInv (issueRead6 { s with status := { s.status with probeHit := hit } }) :=
  h.goOn hb (n := s.probeCnt) (by simp) (by simp) (fun _ => hop) (by simp)
    { bounded := h.probe.bounded
      polledOnly := h.probe.polledOnly
      beforeProbes := by simp
      duringProbes := by simp
      afterProbes := fun _ => hafter
      hitCounted := hcounted }

/-- The read of a presence check is issued (R164). -/
theorem ControlInv.issueRead3 {s : State} (h : ControlInv s) (hb : s.seq ≠ .idle) (hop : s.opl.op = 2#3) :
    ControlInv (issueRead3 s) :=
  h.goOn hb (n := s.probeCnt) (hit := s.status.probeHit) (by simp) (by simp) (by simp) (fun _ => hop)
    { bounded := h.probe.bounded
      polledOnly := h.probe.polledOnly
      beforeProbes := by simp
      duringProbes := by simp
      afterProbes := by simp
      hitCounted := h.probe.hitCounted }

/-! ### Every row -/

/-- In its last waiting states an operation is past its command write, so a failure keeps what `PROBE_HIT` says. -/
theorem ControlInv.raiseFail_reply {s : State} (h : ControlInv s) (hb : s.seq ≠ .idle) {kind : ErrKind}
    (hkind : kind = .readFailed ∨ kind = .crcMismatch) : ControlInv (Machine.raiseFail kind s) := by
  rcases hkind with rfl | rfl <;> exact h.raiseFail hb (by simp) (by simp)

theorem ControlInv.row {e : Input} {u t : State} (hr : Row e u t) (h : ControlInv u) : ControlInv t := by
  cases hr with
  | ignored e u es => exact h.frame u.devAddr es u.trace u.draws
  | reset u => exact controlInv_reset.frame State.reset.devAddr u.inputs [] u.draws
  | addressed data u hs => exact h.frame _ u.inputs u.trace u.draws
  | refused data u hs hv => exact controlInv_refused _
  | accepted data c u hs hv hc => exact controlInv_accepted hv hc
  | writeFailed d u hs =>
    have hmiss := (h.probe.beforeProbes hs).2
    exact (h.record _).raiseFail (by simp [hs]) (by simp) (by simp [hmiss])
  | stretchedWritten d u hs hop htm =>
    have hmiss := (h.probe.beforeProbes hs).2
    exact (h.record _).issueRead6 (hit := u.status.probeHit) (by simp [hs]) hop (by simp [htm]) (by simp [hmiss])
  | polledWritten d u hs hop htm =>
    have hmiss := (h.probe.beforeProbes hs).2
    exact (h.record _).issueProbe (by simp [hs]) hop htm hmiss (by decide) (by decide)
  | presenceWritten d u hs hop => exact (h.record _).issueRead3 (by simp [hs]) hop
  | powerWritten d u hs hop =>
    exact (h.record _).completePass_peripheral (by simp [hs]) (by rcases hop with hop | hop <;> simp [hop])
  | probeHit d u hs =>
    have hpos := (h.probe.duringProbes (.inl hs)).1
    exact (h.record _).issueRead6 (by simp [hs]) (h.latch.probing (.inl hs)).1 (fun _ => ⟨hpos, by simp⟩)
      (fun _ => hpos)
  | probeMissed d u hs => exact (h.record _).issueDelay hs
  | nextProbe u hs hlt =>
    obtain ⟨hop, htm⟩ := h.latch.probing (.inr hs)
    have hmiss := (h.probe.duringProbes (.inr hs)).2
    obtain ⟨hpos, hmax⟩ := probeCnt_succ hlt
    exact (h.record _).issueProbe (by simp [hs]) hop htm hmiss hpos hmax
  | probesExhausted u hs hge =>
    obtain ⟨hpos, hmiss⟩ := h.probe.duringProbes (.inr hs)
    have hmax := probeCnt_exhausted h.probe.bounded hge
    exact (h.record _).issueRead6 (hit := u.status.probeHit) (by simp [hs]) (h.latch.probing (.inr hs)).1
      (fun _ => ⟨hpos, fun _ => hmax⟩) (fun _ => hpos)
  | read6Failed d u hs =>
    exact ((h.record _).spoilReply (by simp [hs])).raiseFail_reply (by simp [hs]) (.inl rfl)
  | measured d c u hs hf =>
    have hop := h.latch.measuring hs
    exact h.completePass rfl rfl rfl (by simp [hop]) (resultInv_commitResults rfl hf)
  | frameMismatch d c u hs =>
    exact ((h.record _).frame_reply (by simp [hs]) _ c).raiseFail_reply (by simp [hs]) (.inr rfl)
  | read3Failed d u hs =>
    exact ((h.record _).spoilReply (by simp [hs])).raiseFail_reply (by simp [hs]) (.inl rfl)
  | present d id rx c u hs =>
    have hop := h.latch.presence hs
    exact ((h.record _).frame_reply (by simp [hs]) rx c).completePass_peripheral (by simp [hs]) (by simp [hop])
  | presenceMismatch d id rx c u hs =>
    exact ((h.record _).frame_reply (by simp [hs]) rx c).raiseFail_reply (by simp [hs]) (.inr rfl)

/-- Settles O44, row by row of R175. -/
theorem stepKeepsControl : Obligations.StepKeepsControl := fun _ _ h hstep =>
  step_keeps_of_rows (fun s es h => h.frame s.devAddr es s.trace s.draws) (fun _ _ _ hr h => h.row hr) h hstep

end Sys2Proof.Safety
end

section
/-! PROOFS. The invariant of the trace (O43, O45): the grammar of R184 and the count of R24, by the phase an operation is in. -/

namespace Sys2Proof.Safety

open Sys2Proof.Machine

/-! ### Lists of transactions -/

@[simp] theorem probesIn_append (t t' : List Transaction) : probesIn (t ++ t') = probesIn t + probesIn t' := by
  induction t with
  | nil => simp [probesIn]
  | cons x t ih => cases x <;> simp [probesIn, ih, Nat.add_right_comm]

/-- A round of a failed probe and its delay, at the end of the others. -/
theorem probeRounds_succ (a : Byte) (n : Nat) :
    probeRounds a (n + 1) = probeRounds a n ++ [.read1 a false, .delay Config.probeDelay] := by
  induction n with
  | zero => rfl
  | succ n ih =>
    change .read1 a false :: .delay 1#8 :: probeRounds a (n + 1) =
      .read1 a false :: .delay 1#8 :: (probeRounds a n ++ _)
    rw [ih]

/-- The rounds before the outstanding probe, with that probe's round: one round for each of the `PROBE_CNT` probes. -/
theorem probeRounds_pred {n : BitVec 5} (hpos : n ≠ 0#5) (a : Byte) :
    probeRounds a n.toNat = probeRounds a (n.toNat - 1) ++ [.read1 a false, .delay Config.probeDelay] := by
  have hn : n.toNat ≠ 0 := fun h => hpos (BitVec.eq_of_toNat_eq h)
  rw [← probeRounds_succ, Nat.sub_add_cancel (Nat.pos_of_ne_zero hn)]

theorem probeCnt_toNat_succ {n : BitVec 5} (hlt : n < Config.probeMax) : (n + 1#5).toNat = n.toNat + 1 := by
  have hn : n.toNat < 20 := hlt
  rw [BitVec.toNat_add]
  exact Nat.mod_eq_of_lt (by simp; omega)

/-! ### The two phases of the invariant -/

/-- The invariant of a busy block. -/
theorem TraceInv.of_running {s : State} (hb : s.seq ≠ .idle) (htrace : s.trace = runningTrace s)
    (hcount : s.probeCnt.toNat = probesIn s.trace + (if s.seq = .probe then 1 else 0)) : TraceInv s :=
  ⟨fun hi => absurd hi hb, fun hi => absurd hi hb, fun _ => htrace, hcount⟩

/-- The invariant where an operation has just ended. -/
theorem TraceInv.of_finished {s : State} (hi : s.seq = .idle) (hdone : s.status.done = true)
    (herr : s.status.errKind ≠ .invalidReq) (htrace : FinishedTrace s.opl s.trace)
    (hcount : s.probeCnt.toNat = probesIn s.trace) : TraceInv s where
  idle := fun _ h => by rcases h with h | h <;> simp_all
  finished := fun _ _ _ => htrace
  running := fun hb => absurd hi hb
  counted := by simp [hi, hcount]

/-- The invariant where nothing has been answered yet and no probe issued. -/
theorem TraceInv.of_empty {s : State} (htrace : s.trace = []) (hcount : s.probeCnt = 0#5)
    (hseq : s.seq = .write ∨ s.seq = .idle ∧ (s.status.done = false ∨ s.status.errKind = .invalidReq)) :
    TraceInv s where
  idle := fun _ _ => htrace
  finished := fun hi hdone herr => by rcases hseq with h | ⟨-, h | h⟩ <;> simp_all
  running := fun hb => by rcases hseq with h | ⟨h, -⟩ <;> simp_all [runningTrace]
  counted := by rcases hseq with h | ⟨h, -⟩ <;> simp [h, htrace, hcount, probesIn]

/-- The invariant does not read the inputs to come, nor while idle the address. -/
theorem TraceInv.frame_inputs {s : State} (h : TraceInv s) (es : List Input) : TraceInv { s with inputs := es } :=
  { h with }

theorem TraceInv.frame_address {s : State} (h : TraceInv s) (hi : s.seq = .idle) (a : Byte) :
    TraceInv { s with devAddr := a } :=
  { idle := h.idle, finished := h.finished, running := fun hb => absurd hi hb, counted := h.counted }

/-! ### The trace in each waiting state -/

section Waiting

variable {s : State}

theorem TraceInv.trace_write (h : TraceInv s) (hs : s.seq = .write) : s.trace = [] := by
  rw [h.running (by simp [hs])]; simp [runningTrace, hs]

theorem TraceInv.trace_probe (h : TraceInv s) (hs : s.seq = .probe) :
    s.trace = .write s.devAddr s.cmd.b0 s.cmd.b1 true :: probeRounds s.devAddr (s.probeCnt.toNat - 1) := by
  rw [h.running (by simp [hs])]; simp [runningTrace, hs]

theorem TraceInv.trace_delay (h : TraceInv s) (hs : s.seq = .delay) :
    s.trace = .write s.devAddr s.cmd.b0 s.cmd.b1 true ::
      (probeRounds s.devAddr (s.probeCnt.toNat - 1) ++ [.read1 s.devAddr false]) := by
  rw [h.running (by simp [hs])]; simp [runningTrace, hs]

theorem TraceInv.trace_read3 (h : TraceInv s) (hs : s.seq = .read3) :
    s.trace = [.write s.devAddr s.cmd.b0 s.cmd.b1 true] := by
  rw [h.running (by simp [hs])]; simp [runningTrace, hs]

/-- Before the final read of a MEASURE: no probe, or failed rounds and a hit, or twenty failed rounds. -/
theorem TraceInv.trace_read6 (h : TraceInv s) (hc : ControlInv s) (hs : s.seq = .read6) :
    (s.opl.timing = .stretched ∧ s.trace = [.write s.devAddr s.cmd.b0 s.cmd.b1 true]) ∨
    (s.opl.timing = .polled ∧ ∃ k < 20, s.trace = .write s.devAddr s.cmd.b0 s.cmd.b1 true ::
      (probeRounds s.devAddr k ++ [.read1 s.devAddr true])) ∨
    (s.opl.timing = .polled ∧
      s.trace = .write s.devAddr s.cmd.b0 s.cmd.b1 true :: probeRounds s.devAddr 20) := by
  have htrace := h.running (by simp [hs])
  simp only [runningTrace, hs] at htrace
  cases htm : s.opl.timing with
  | stretched => exact .inl ⟨rfl, by simpa [htm] using htrace⟩
  | polled =>
    obtain ⟨-, hmax⟩ := hc.probe.afterProbes hs htm
    cases hhit : s.status.probeHit with
    | true =>
      have hle : s.probeCnt.toNat ≤ 20 := hc.probe.bounded
      exact .inr (.inl ⟨rfl, s.probeCnt.toNat - 1, by omega, by simpa [htm, hhit] using htrace⟩)
    | false =>
      have h20 : s.probeCnt.toNat = 20 := congrArg BitVec.toNat (hmax hhit)
      exact .inr (.inr ⟨rfl, by simpa [htm, hhit, h20] using htrace⟩)

/-! ### The end of an operation -/

/-- A failed command write is the whole trace (R184). -/
theorem finishedTrace_writeFailed (h : TraceInv s) (hc : ControlInv s) (hs : s.seq = .write) :
    FinishedTrace s.opl (s.trace ++ [.write s.devAddr s.cmd.b0 s.cmd.b1 false]) := by
  obtain ⟨-, hcmd⟩ := hc.latch.latched (by simp [hs])
  exact ⟨s.devAddr, s.cmd, hcmd, .inl (by rw [h.trace_write hs]; rfl)⟩

/-- So is the command write of SLEEP and WAKE. -/
theorem finishedTrace_powerWritten (h : TraceInv s) (hc : ControlInv s) (hs : s.seq = .write)
    (hop : s.opl.op = 3#3 ∨ s.opl.op = 4#3) :
    FinishedTrace s.opl (s.trace ++ [.write s.devAddr s.cmd.b0 s.cmd.b1 true]) := by
  obtain ⟨-, hcmd⟩ := hc.latch.latched (by simp [hs])
  exact ⟨s.devAddr, s.cmd, hcmd, .inr (.inl ⟨hop, by rw [h.trace_write hs]; rfl⟩)⟩

/-- The presence read ends an IS_PRESENT. -/
theorem finishedTrace_read3 (h : TraceInv s) (hc : ControlInv s) (hs : s.seq = .read3)
    (id : Option (Byte × Byte × Byte)) : FinishedTrace s.opl (s.trace ++ [.read3 s.devAddr id]) := by
  obtain ⟨-, hcmd⟩ := hc.latch.latched (by simp [hs])
  exact ⟨s.devAddr, s.cmd, hcmd,
    .inr (.inr (.inl ⟨hc.latch.presence hs, id, by rw [h.trace_read3 hs]; rfl⟩))⟩

/-- The 6-byte read ends a MEASURE, whatever went before it. -/
theorem finishedTrace_read6 (h : TraceInv s) (hc : ControlInv s) (hs : s.seq = .read6) (r : Option Reply) :
    FinishedTrace s.opl (s.trace ++ [.read6 s.devAddr r]) := by
  obtain ⟨-, hcmd⟩ := hc.latch.latched (by simp [hs])
  have hop := hc.latch.measuring hs
  refine ⟨s.devAddr, s.cmd, hcmd, .inr (.inr (.inr ?_))⟩
  rcases h.trace_read6 hc hs with ⟨htm, htrace⟩ | ⟨htm, k, hk, htrace⟩ | ⟨htm, htrace⟩
  · exact .inl ⟨hop, htm, r, by rw [htrace]; rfl⟩
  · exact .inr (.inl ⟨hop, htm, k, r, hk, by rw [htrace]; simp⟩)
  · exact .inr (.inr ⟨hop, htm, r, by rw [htrace]; rfl⟩)

/-- Outside S_PROBE every probe that `PROBE_CNT` counts has been answered. -/
theorem TraceInv.counted_answered (h : TraceInv s) (hs : s.seq ≠ .probe) :
    s.probeCnt.toNat = probesIn s.trace := by
  simpa [hs] using h.counted

/-- An operation that ends with the transaction `x`, which is no probe. -/
theorem TraceInv.finish {t : State} {x : Transaction} (h : TraceInv s) (hs : s.seq ≠ .probe)
    (hx : probesIn [x] = 0) (htrace : t.trace = s.trace ++ [x]) (hopl : t.opl = s.opl)
    (hcount : t.probeCnt = s.probeCnt) (hidle : t.seq = .idle) (hdone : t.status.done = true)
    (herr : t.status.errKind ≠ .invalidReq) (hfin : FinishedTrace s.opl (s.trace ++ [x])) : TraceInv t :=
  .of_finished hidle hdone herr (by rw [hopl, htrace]; exact hfin)
    (by rw [hcount, htrace, probesIn_append, hx]; exact h.counted_answered hs)

end Waiting

/-! ### Every row -/

theorem traceInv_reset : TraceInv State.reset := .of_empty rfl rfl (.inr ⟨rfl, .inl rfl⟩)

theorem TraceInv.row {e : Input} {u t : State} (hr : Row e u t) (hc : ControlInv u) (h : TraceInv u) :
    TraceInv t := by
  cases hr with
  | ignored e u es => exact h.frame_inputs es
  | reset u => exact .of_empty rfl rfl (.inr ⟨rfl, .inl rfl⟩)
  | addressed data u hs => exact h.frame_address hs _
  | refused data u hs hv => exact .of_empty rfl rfl (.inr ⟨rfl, .inr rfl⟩)
  | accepted data c u hs hv hsel => exact .of_empty rfl rfl (.inl rfl)
  | writeFailed d u hs =>
    exact h.finish (by simp [hs]) rfl rfl rfl rfl rfl rfl (by simp) (finishedTrace_writeFailed h hc hs)
  | stretchedWritten d u hs hop htm =>
    have hcount := h.counted_answered (by simp [hs])
    refine .of_running (by simp) ?_ ?_
    · simp [runningTrace, h.trace_write hs, htm]
    · simpa [probesIn] using hcount
  | polledWritten d u hs hop htm =>
    refine .of_running (by simp) ?_ ?_
    · simp [runningTrace, h.trace_write hs, probeRounds]
    · simp [h.trace_write hs, probesIn]
  | presenceWritten d u hs hop =>
    have hcount := h.counted_answered (by simp [hs])
    refine .of_running (by simp) ?_ ?_
    · simp [runningTrace, h.trace_write hs]
    · simpa [probesIn] using hcount
  | powerWritten d u hs hop =>
    exact h.finish (by simp [hs]) rfl rfl rfl rfl rfl rfl (by simp) (finishedTrace_powerWritten h hc hs hop)
  | probeHit d u hs =>
    obtain ⟨-, htm⟩ := hc.latch.probing (.inl hs)
    have hcount := h.counted
    refine .of_running (by simp) ?_ ?_
    · simp [runningTrace, h.trace_probe hs, htm]
    · simpa [probesIn, hs] using hcount
  | probeMissed d u hs =>
    have hcount := h.counted
    refine .of_running (by simp) ?_ ?_
    · simp [runningTrace, h.trace_probe hs]
    · simpa [probesIn, hs] using hcount
  | nextProbe u hs hlt =>
    have hpos := (hc.probe.duringProbes (.inr hs)).1
    have hcount := h.counted_answered (by simp [hs])
    refine .of_running (by simp) ?_ ?_
    · simp [runningTrace, h.trace_delay hs, probeCnt_toNat_succ hlt, probeRounds_pred hpos]
    · simpa [probesIn, probeCnt_toNat_succ hlt] using hcount
  | probesExhausted u hs hge =>
    obtain ⟨hpos, hmiss⟩ := hc.probe.duringProbes (.inr hs)
    obtain ⟨-, htm⟩ := hc.latch.probing (.inr hs)
    have hcount := h.counted_answered (by simp [hs])
    refine .of_running (by simp) ?_ ?_
    · simp [runningTrace, h.trace_delay hs, htm, hmiss, probeRounds_pred hpos]
    · simpa [probesIn] using hcount
  | read6Failed d u hs =>
    exact h.finish (by simp [hs]) rfl rfl rfl rfl rfl rfl (by simp) (finishedTrace_read6 h hc hs _)
  | measured d c u hs hf =>
    exact h.finish (by simp [hs]) rfl rfl rfl rfl rfl rfl (by simp) (finishedTrace_read6 h hc hs _)
  | frameMismatch d c u hs =>
    exact h.finish (by simp [hs]) rfl rfl rfl rfl rfl rfl (by simp) (finishedTrace_read6 h hc hs _)
  | read3Failed d u hs =>
    exact h.finish (by simp [hs]) rfl rfl rfl rfl rfl rfl (by simp) (finishedTrace_read3 h hc hs _)
  | present d id rx c u hs =>
    exact h.finish (by simp [hs]) rfl rfl rfl rfl rfl rfl (by simp) (finishedTrace_read3 h hc hs _)
  | presenceMismatch d id rx c u hs =>
    exact h.finish (by simp [hs]) rfl rfl rfl rfl rfl rfl (by simp) (finishedTrace_read3 h hc hs _)

/-- Settles O45, row by row of R175. -/
theorem stepKeepsTrace : Obligations.StepKeepsTrace := fun _ _ hc ht hstep =>
  (step_keeps_of_rows (P := fun s => ControlInv s ∧ TraceInv s)
    (fun s es ⟨hc, ht⟩ => ⟨hc.frame s.devAddr es s.trace s.draws, ht.frame_inputs es⟩)
    (fun _ _ _ hr ⟨hc, ht⟩ => ⟨hc.row hr, ht.row hr hc⟩) ⟨hc, ht⟩ hstep).2

/-- Settles O43. -/
theorem resetMeetsInvariants : Obligations.ResetMeetsInvariants := ⟨controlInv_reset, traceInv_reset⟩

end Sys2Proof.Safety
end

section
/-! PROOFS. Safety of every step (O48, O50), by the rows of R175. -/

namespace Sys2Proof.Machine

open Sys2Proof.Safety

/-- The result registers of `t` are those of `s`. -/
def SameResults (s t : State) : Prop :=
  t.tRaw = s.tRaw ∧ t.rhRaw = s.rhRaw ∧ t.temp = s.temp ∧ t.rh = s.rh

/-- The result registers are zero and hold no Measurement (R31). -/
def NoResults (t : State) : Prop :=
  t.tRaw = 0#16 ∧ t.rhRaw = 0#16 ∧ t.temp = 0#32 ∧ t.rh = 0#32 ∧ t.status.measValid = false

theorem NoResults.measValid {t : State} (h : NoResults t) : t.status.measValid = false := by
  obtain ⟨-, -, -, -, hoff⟩ := h
  exact hoff

/-- What a row does to the Measurement: it keeps the results and makes none valid, it clears them, or it is the answer of the
6-byte read that passes both checks. -/
theorem Row.results_cases {e : Input} {u t : State} (hr : Row e u t) :
    (SameResults u t ∧ (t.status.measValid = true → u.status.measValid = true)) ∨ NoResults t ∨
    (u.seq = .read6 ∧ t.status.measValid = true ∧ ∃ d, e = .tpDone true d ∧ framePasses (replyOf d) = true) := by
  cases hr with
  | reset u => exact .inr (.inl ⟨rfl, rfl, rfl, rfl, rfl⟩)
  | refused data u hs hv => exact .inr (.inl ⟨rfl, rfl, rfl, rfl, rfl⟩)
  | accepted data c u hs hv hsel => exact .inr (.inl ⟨rfl, rfl, rfl, rfl, rfl⟩)
  | measured d c u hs hf => exact .inr (.inr ⟨hs, rfl, d, rfl, hf⟩)
  | _ => exact .inl ⟨⟨rfl, rfl, rfl, rfl⟩, by simp⟩

/-- Settles O48. -/
theorem validationGate : Obligations.ValidationGate := by
  intro s t hstep
  rcases step_row hstep with ⟨-, rfl⟩ | ⟨e, u, hi, hu, hr⟩
  · exact ⟨fun hoff hon => absurd hon (by simp [hoff]), .inl ⟨rfl, rfl, rfl, rfl⟩⟩
  · have hseq : u.seq = s.seq := by rw [hu]
    have hvalid : u.status.measValid = s.status.measValid := by rw [hu]
    have hsame : SameResults u t → SameResults s t := by rw [hu]; exact id
    rcases hr.results_cases with ⟨hkeep, hmono⟩ | hnone | ⟨hs, hon, d, rfl, hf⟩
    · exact ⟨fun hoff hon => absurd (hvalid ▸ hmono hon) (by simp [hoff]), .inl (hsame hkeep)⟩
    · exact ⟨fun _ hon => absurd hon (by simp [hnone.measValid]), .inr (.inl hnone)⟩
    · obtain ⟨hT, hH⟩ := (Bool.and_eq_true _ _).mp hf
      exact ⟨fun _ _ => ⟨hseq ▸ hs, d, u.inputs, hi, hT, hH⟩, .inr (.inr ⟨hseq ▸ hs, hon⟩)⟩

/-- A row that neither begins nor ends an operation keeps what the operation was given (R26, R74). -/
theorem Row.keeps_operation {e : Input} {u t : State} (hr : Row e u t) (hb : u.seq ≠ .idle) (hb' : t.seq ≠ .idle) :
    t.devAddr = u.devAddr ∧ t.opl = u.opl ∧ t.cmd = u.cmd := by
  cases hr with
  | reset u => exact absurd rfl hb'
  | addressed data u hs => exact absurd hs hb
  | refused data u hs hv => exact absurd hs hb
  | accepted data c u hs hv hsel => exact absurd hs hb
  | _ => exact ⟨rfl, rfl, rfl⟩

/-- Settles O50. -/
theorem operationInputsStable : Obligations.OperationInputsStable := by
  intro s t hstep hb hb'
  rcases step_row hstep with ⟨-, rfl⟩ | ⟨e, u, -, hu, hr⟩
  · exact ⟨rfl, rfl, rfl⟩
  · rw [hu] at hr
    exact hr.keeps_operation hb hb'

end Sys2Proof.Machine
end

section
/-! PROOFS. The registers as the host and the two capabilities see them (O4, O8 to O13, O34). -/

namespace Sys2Proof.Machine

/-! ### Host accesses -/

/-- Settles O4: the decoded request is what the step runs, since running it is the host's write of that word. -/
theorem stepRunsTheDecodedRequest : Obligations.StepRunsTheDecodedRequest := by
  intro s i data rest _ hi hd
  rw [step_of_cons hi, exec_of_decodeReq (w := requestWord data) hd]
  rfl

theorem hostWriteEffect_readOnly {sel : BitVec 3} (hreq : sel ≠ 0#3) (haddr : sel ≠ 2#3) (data : Word32) (s : State) :
    hostWriteEffect sel data s = s := by
  simp [hostWriteEffect, hreq, haddr]

/-- Settles O8. -/
theorem readOnlyWriteIsIgnored : Obligations.ReadOnlyWriteIsIgnored := by
  intro s sel data rest hi hsel
  obtain ⟨hreq, haddr⟩ : sel ≠ 0#3 ∧ sel ≠ 2#3 := by rcases hsel with rfl | rfl | rfl | rfl | rfl | rfl <;> decide
  rw [step_of_cons hi, reactTo, hostWriteEffect_readOnly hreq haddr]

/-- Settles O9. -/
theorem hostReadChangesNothing : Obligations.HostReadChangesNothing := fun _ _ _ hi => step_of_cons hi

theorem writeDevAddr_idle {s : State} (h : s.seq = .idle) (data : Word32) :
    writeDevAddr data s = { s with devAddr := data.setWidth 8 } := by
  simp [writeDevAddr, h, addressByte]

/-- Settles O10. -/
theorem deviceAddressWrite : Obligations.DeviceAddressWrite := by
  intro s data rest hi
  have hstep : step s = .next (writeDevAddr data { s with inputs := rest }) := step_of_cons hi
  constructor
  · intro hs
    rw [hstep, writeDevAddr_idle (s := { s with inputs := rest }) hs]
  · intro hs
    rw [hstep, writeDevAddr_busy (s := { s with inputs := rest }) hs]

/-! ### The register map -/

/-- A register narrower than 32 bits reads with zeros above it (R32). -/
theorem setWidth_eq_zero_append {w k : Nat} (x : BitVec w) : x.setWidth (k + w) = 0#k ++ x := by
  apply BitVec.eq_of_toNat_eq
  rw [BitVec.toNat_setWidth_of_le (Nat.le_add_left w k), BitVec.toNat_append]
  simp

/-- `REQ` as read: the latch in bits 4:0 (R29). -/
theorem hreg_req (s : State) : hreg s 0#3 =
    0#27 ++ BitVec.ofBool (powerBit s.opl.power) ++ BitVec.ofBool (timingBit s.opl.timing) ++ s.opl.op := by
  apply BitVec.eq_of_toNat_eq
  change ((reqReadByte s.opl).setWidth 32).toNat = _
  rw [BitVec.toNat_setWidth_of_le (by decide)]
  unfold reqReadByte reqWordOf
  repeat rw [BitVec.toNat_append]
  rfl

/-- `STATUS` as read: its fields in bits 7:0 (R28). -/
theorem hreg_status (s : State) : hreg s 1#3 =
    0#24 ++ errCode s.status.errKind ++ BitVec.ofBool s.status.probeHit ++ BitVec.ofBool s.status.measValid ++
      BitVec.ofBool s.status.ok ++ BitVec.ofBool s.status.done ++ BitVec.ofBool s.status.busy := by
  apply BitVec.eq_of_toNat_eq
  change ((statusByte s.status).setWidth 32).toNat = _
  rw [BitVec.toNat_setWidth_of_le (by decide)]
  unfold statusByte
  repeat rw [BitVec.toNat_append]
  simp

/-- Settles O11: each index selects its register, zero-extended. -/
theorem registerMapReads : Obligations.RegisterMapReads := fun s =>
  ⟨hreg_req s, hreg_status s, setWidth_eq_zero_append (k := 24) s.devAddr,
    setWidth_eq_zero_append (k := 27) s.probeCnt, setWidth_eq_zero_append (k := 16) s.tRaw,
    setWidth_eq_zero_append (k := 16) s.rhRaw, rfl, rfl⟩

/-! ### The ports -/

/-- Settles O12, by the state of the sequencer. -/
theorem outstandingTransaction : Obligations.OutstandingTransaction := by
  intro s
  refine ⟨?_, ?_, ?_, ?_, ?_, ?_⟩ <;> intro hs <;> simp [tpPort, dlPort, hs, Config.probeDelay]

/-! ### Reset -/

/-- The registers of `t` are those of `State.reset`: everything but the model's own fields. -/
def HoldsResetValues (t : State) : Prop :=
  t = { State.reset with inputs := t.inputs, trace := t.trace, draws := t.draws }

theorem holdsResetValues_resetEffect (s : State) : HoldsResetValues (resetEffect s) := rfl

theorem statusByte_clear : statusByte Status.clear = 0x00#8 := by decide

theorem hreg_req_of_reset_latch {t : State} (h : t.opl = ⟨0#3, .stretched, .normal⟩) : hreg t 0#3 = 0#32 := by
  rw [hreg_req, h]; decide

/-- The reset column of R20, register by register, as R38 prints it. -/
theorem HoldsResetValues.registers {t : State} (h : HoldsResetValues t) :
    t.seq = .idle ∧ t.opl = ⟨0#3, .stretched, .normal⟩ ∧ t.cmd = ⟨0#8, 0#8⟩ ∧
    t.rx = ⟨0#8, 0#8, 0#8, 0#8, 0#8, 0#8⟩ ∧ t.crc = 0xFF#8 ∧ t.probeCnt = 0#5 ∧ t.devAddr = 0x70#8 ∧
    statusByte t.status = 0x00#8 ∧ t.tRaw = 0#16 ∧ t.rhRaw = 0#16 ∧ t.temp = 0#32 ∧ t.rh = 0#32 ∧
    hreg t 0#3 = 0#32 ∧ tpPort t = none ∧ dlPort t = none := by
  rw [h]
  exact ⟨rfl, rfl, rfl, rfl, rfl, rfl, rfl, statusByte_clear, rfl, rfl, rfl, rfl, hreg_req_of_reset_latch rfl, rfl, rfl⟩

/-- Settles O13: a step at reset is `resetEffect`, whose registers are those of `State.reset`. -/
theorem resetFromAnyState : Obligations.ResetFromAnyState := by
  refine ⟨fun s rest hi => ⟨_, step_of_cons hi⟩, ?_⟩
  rintro t (rfl | ⟨s, rest, hi, hstep⟩)
  · exact HoldsResetValues.registers rfl
  · have ht : resetEffect { s with inputs := rest } = t :=
      Host.Outcome.next.inj ((step_of_cons hi).symm.trans hstep)
    exact ht ▸ (holdsResetValues_resetEffect _).registers

/-! ### The checksum register -/

/-- Settles O34. -/
theorem fieldCheckIsValidate : Obligations.FieldCheckIsValidate := fun f s =>
  ⟨rfl, fieldPasses_eq f s, beq_iff_eq⟩

end Sys2Proof.Machine
end

section
/-! PROOFS. Commands and answers at the transport and delay ports (O5, O14, O23): what an answer does while its transaction is
outstanding, and that nothing happens while it is not. -/

namespace Sys2Proof.Machine

/-! ### Answers, by what is outstanding -/

theorem step_of_nil {s : State} (h : s.inputs = []) : step s = .next s := by
  rw [step_eq, h]

theorem transportAnswer_write {s : State} (h : s.seq = .write) (ok : Bool) (d : RData) :
    transportAnswer ok d s = answerWrite ok s := by
  simp [transportAnswer, h]

theorem tpPort_eq_none_iff (s : State) : tpPort s = none ↔ s.seq = .idle ∨ s.seq = .delay := by
  cases hs : s.seq <;> simp [tpPort, hs]

theorem dlPort_eq_none_iff (s : State) : dlPort s = none ↔ s.seq ≠ .delay := by
  cases hs : s.seq <;> simp [dlPort, hs]

/-- The transport's answer is ignored while it was asked for nothing (R76). -/
theorem transportAnswer_of_tpPort_none {s : State} (h : tpPort s = none) (ok : Bool) (d : RData) :
    transportAnswer ok d s = .next s := by
  rcases (tpPort_eq_none_iff s).mp h with hs | hs <;> simp [transportAnswer, hs]

/-- The delay's return is ignored while none was asked for (log 7). -/
theorem delayReturn_of_dlPort_none {s : State} (h : dlPort s = none) : delayReturn s = s := by
  have hne := (dlPort_eq_none_iff s).mp h
  cases hs : s.seq with
  | delay => exact absurd hs hne
  | _ => simp only [delayReturn, hs]

/-- Settles O14. -/
theorem nothingWithoutAnAnswer : Obligations.NothingWithoutAnAnswer := by
  intro s rest
  refine ⟨step_of_nil, fun ok d hi hport => ?_, fun hi hport => ?_⟩
  · calc step s = transportAnswer ok d { s with inputs := rest } := step_of_cons hi
      _ = .next { s with inputs := rest } :=
        transportAnswer_of_tpPort_none (s := { s with inputs := rest }) hport ok d
  · calc step s = .next (delayReturn { s with inputs := rest }) := step_of_cons hi
      _ = .next { s with inputs := rest } := congrArg _ (delayReturn_of_dlPort_none hport)

/-! ### Wire commands -/

/-- Settles O5: the step is the answer of the outstanding write, and so is the command that write carries. -/
theorem stepRunsTheDecodedCommand : Obligations.StepRunsTheDecodedCommand := by
  intro s i ok d rest hs hi hd
  calc step s = transportAnswer ok d { s with inputs := rest } := step_of_cons hi
    _ = answerWrite ok { s with inputs := rest } :=
      transportAnswer_write (s := { s with inputs := rest }) hs ok d
    _ = commandWrite s.cmd.b0 s.cmd.b1 s := (commandWrite_answered hs hi).symm
    _ = exec i s := (exec_of_decodeWire hd s).symm

/-- The rows of R95: each wire command with its bytes, first byte first. -/
def wireCommands : List (Instr × Byte × Byte) :=
  [(.cmdGetId, 0xEF#8, 0xC8#8), (.cmdSleep, 0xB0#8, 0x98#8), (.cmdWake, 0x35#8, 0x17#8),
    (.cmdMeasNormalPolled, 0x78#8, 0x66#8), (.cmdMeasNormalStretched, 0x7C#8, 0xA2#8),
    (.cmdMeasLowPolled, 0x60#8, 0x9C#8), (.cmdMeasLowStretched, 0x64#8, 0x58#8)]

theorem decodeWire_of_mem_wireCommands :
    ∀ row ∈ wireCommands, decodeWire row.2.1 row.2.2 = .instr row.1 := by decide

/-- A wire command's meaning is the answer of the write that carries its bytes (R61, R164; log 3). -/
theorem exec_of_mem_wireCommands {i : Instr} {c0 c1 : Byte} (h : (i, c0, c1) ∈ wireCommands) (s : State) :
    exec i s = commandWrite c0 c1 s :=
  exec_of_decodeWire (decodeWire_of_mem_wireCommands _ h) s

theorem commandWrite_not_outstanding {s : State} {b0 b1 : Byte} (h : s.seq ≠ .write ∨ s.cmd ≠ ⟨b0, b1⟩) :
    commandWrite b0 b1 s = .next s :=
  if_neg fun ⟨hs, hc⟩ => h.elim (· hs) (· hc)

theorem commandWrite_no_answer {s : State} (h : ∀ ok d rest, s.inputs ≠ .tpDone ok d :: rest) (b0 b1 : Byte) :
    commandWrite b0 b1 s = .next s := by
  unfold commandWrite
  split
  case isTrue =>
    split
    case h_1 ok d rest hi => exact absurd hi (h ok d rest)
    case h_2 => rfl
  case isFalse => rfl

/-- Settles O23. -/
theorem commandsNotAnswered : Obligations.CommandsNotAnswered := by
  intro s i c0 c1 hrow hquiet
  rw [exec_of_mem_wireCommands hrow]
  rcases hquiet with ⟨-, -, hnone⟩ | hout
  · exact commandWrite_no_answer hnone c0 c1
  · exact commandWrite_not_outstanding hout

end Sys2Proof.Machine
end

section
/-! PROOFS. The decoder and the encoder (O1 to O3), by the rows of R93 and R95. -/

namespace Sys2Proof.Machine

/-! ### Wire commands -/

theorem encode_of_mem_wireCommands : ∀ row ∈ wireCommands, encode row.1 = [row.2.1, row.2.2] := by decide

/-- Two bytes in no row of R95 are no command. -/
theorem decodeWire_unknown {b0 b1 : Byte} (h : (b0, b1) ∉ wireCommands.map Prod.snd) :
    decodeWire b0 b1 = .rejected .unknownCommand := by
  simp only [wireCommands, List.map_cons, List.map_nil, List.mem_cons, Prod.mk.injEq, List.not_mem_nil, or_false,
    not_or] at h
  obtain ⟨hid, hsleep, hwake, hnp, hns, hlp, hls⟩ := h
  simp only [decodeWire, hid, hsleep, hwake, hnp, hns, hlp, hls, if_false]

/-- Bytes that decode to a command are its row of R95. -/
theorem mem_wireCommands_of_decodeWire {b0 b1 : Byte} {i : Instr} (h : decodeWire b0 b1 = .instr i) :
    (i, b0, b1) ∈ wireCommands := by
  by_cases hmem : (b0, b1) ∈ wireCommands.map Prod.snd
  · obtain ⟨⟨j, c0, c1⟩, hrow, heq⟩ := List.mem_map.mp hmem
    cases heq
    have hj := decodeWire_of_mem_wireCommands _ hrow
    cases h.symm.trans hj
    exact hrow
  · cases h.symm.trans (decodeWire_unknown hmem)

/-! ### Both formats -/

/-- A request word that decodes is the encoding of its instruction. -/
theorem encode_of_decodeReq {w : Byte} {i : Instr} (h : decodeReq w = .instr i) : encode i = [w] := by
  rcases decodeReq_cases w with ⟨-, hc⟩ | ⟨-, hc⟩
  · rcases hc with ⟨rfl, hd⟩ | ⟨rfl, hd⟩ | ⟨rfl, hd⟩ | ⟨rfl, hd⟩ | ⟨rfl, hd⟩ | ⟨rfl, hd⟩ | ⟨rfl, hd⟩ <;>
      (cases h.symm.trans hd; rfl)
  · rcases hc with hd | hd | hd <;> cases h.symm.trans hd

theorem decode_encode (i : Instr) : decode (encode i) = .instr i := by
  cases i <;> rfl

/-- The decoder accepts nothing but encodings, whatever the number of bytes (R90, R94, R95). -/
theorem encode_of_decode {bs : List Byte} {i : Instr} (h : decode bs = .instr i) : encode i = bs := by
  match bs, h with
  | [], h => cases h
  | [_], h => exact encode_of_decodeReq h
  | [_, _], h => exact encode_of_mem_wireCommands _ (mem_wireCommands_of_decodeWire h)
  | _ :: _ :: _ :: _, h => cases h

/-- Settles O1. -/
theorem decodeAndEncodeAgree : Obligations.DecodeAndEncodeAgree :=
  ⟨fun i _ => decode_encode i, fun _ _ h => (encode_of_decode h).symm⟩

/-! ### The two tables -/

/-- The request words of R93, row by row. -/
def requestWords : List Byte := [0x01#8, 0x09#8, 0x11#8, 0x19#8, 0x02#8, 0x03#8, 0x04#8]

theorem validRequest_of_mem_requestWords : ∀ w ∈ requestWords, validRequest w = true := by decide

theorem validRequest_iff_mem (w : Byte) : validRequest w = true ↔ w ∈ requestWords := by
  refine ⟨fun hv => ?_, validRequest_of_mem_requestWords w⟩
  rcases decodeReq_cases w with ⟨-, hc⟩ | ⟨hinv, -⟩
  · rcases hc with ⟨rfl, -⟩ | ⟨rfl, -⟩ | ⟨rfl, -⟩ | ⟨rfl, -⟩ | ⟨rfl, -⟩ | ⟨rfl, -⟩ | ⟨rfl, -⟩ <;>
      simp [requestWords]
  · exact absurd hv (by simp [hinv])

/-- The decoder of R93 rejects a word exactly where the decoder the spec writes out does. -/
theorem validRequest_eq_false_iff (w : Byte) : validRequest w = false ↔ ∃ e, decodeReq w = .rejected e := by
  rcases decodeReq_cases w with ⟨hv, hc⟩ | ⟨hinv, hc⟩
  · rcases hc with ⟨-, hd⟩ | ⟨-, hd⟩ | ⟨-, hd⟩ | ⟨-, hd⟩ | ⟨-, hd⟩ | ⟨-, hd⟩ | ⟨-, hd⟩ <;> simp [hv, hd]
  · rcases hc with hd | hd | hd <;> simp [hinv, hd]

/-- Settles O2: the rows of R93 as they are printed, then what holds of all 256 words. -/
theorem requestWordMap : Obligations.RequestWordMap :=
  ⟨rfl, rfl, rfl, rfl, rfl, rfl, rfl, rfl, rfl, rfl, rfl, rfl, rfl, rfl, validRequest_iff_mem,
    validRequest_eq_false_iff⟩

/-- Settles O3. -/
theorem commandTable : Obligations.CommandTable :=
  ⟨rfl, rfl, rfl, rfl, rfl, rfl, rfl, fun _ _ h => decodeWire_unknown h⟩

end Sys2Proof.Machine
end

section
/-! PROOFS. A request as a step (O6), and the values of `STATUS` (O47). -/

namespace Sys2Proof.Machine

/-! ### A request as a step -/

/-- A host write of `REQ` while idle is the acceptance of its word (R161). -/
theorem step_request {s : State} {data : Word32} {rest : List Input} (hs : s.seq = .idle)
    (hi : s.inputs = .hostWrite 0#3 data :: rest) :
    step s = .next (acceptRequest (requestWord data) { s with inputs := rest }) :=
  (step_of_cons hi).trans (congrArg _ (hostRequest_idle (s := { s with inputs := rest }) hs _))

/-- The latch of a request in the bits of the register write; bits 31:5 are not kept (R29, R91). -/
theorem latchOf_requestWord (data : Word32) : latchOf (requestWord data) =
    ⟨data.extractLsb' 0 3, timingOfBit (data.getLsbD 3), powerOfBit (data.getLsbD 4)⟩ := by
  have hop : (requestWord data).extractLsb' 0 3 = data.extractLsb' 0 3 := by
    ext i hlt
    have h8 : i < 8 := by omega
    simp [requestWord, h8]
  simp only [latchOf, reqFieldsOf, hop]
  simp [requestWord]

/-- Settles O6. -/
theorem invalidRequestFailsAtOnce : Obligations.InvalidRequestFailsAtOnce := by
  intro s data rest hs hi hv
  rw [step_request hs hi, acceptRequest_invalid (w := requestWord data) hv, ← latchOf_requestWord]
  simp [raiseFail, latchRequest, statusFailed, statusAccepted, hs]

end Sys2Proof.Machine

namespace Sys2Proof.Safety

open Sys2Proof.Machine

/-! ### The values of `STATUS` -/

/-- The forms of `STATUS` (R28): after reset, running, passed, failed. A hit is a MEASURE's, so a pass with one has a Measurement and
a failure with one is of the read or the checks. -/
inductive StatusForm : Status → Prop
  | fresh : StatusForm Status.clear
  | running (hit : Bool) : StatusForm ⟨true, false, false, false, hit, .none⟩
  | passed (valid hit : Bool) (h : hit = true → valid = true) : StatusForm ⟨false, true, true, valid, hit, .none⟩
  | failed (hit : Bool) (kind : ErrKind) (hne : kind ≠ .none)
      (h : hit = true → kind ≠ .invalidReq ∧ kind ≠ .writeFailed) :
      StatusForm ⟨false, true, false, false, hit, kind⟩

/-- An operation that has completed is no longer running (R28). -/
theorem StatusInv.busy_of_done {s : State} (h : StatusInv s) (hdone : s.status.done = true) :
    s.status.busy = false := by
  cases hbusy : s.status.busy with
  | false => rfl
  | true =>
    obtain ⟨hnot, -⟩ := h.running hbusy
    exact absurd hdone (by simp [hnot])

theorem ControlInv.statusForm {s : State} (hc : ControlInv s) : StatusForm s.status := by
  have h := hc.status
  by_cases hseq : s.seq = .idle
  case neg =>
    have hrun : s.status = _ := hc.status_running hseq s.status.probeHit
    exact hrun ▸ .running s.status.probeHit
  have hbusy : s.status.busy = false := Bool.eq_false_iff.mpr fun hb => h.busy.mp hb hseq
  have heta : s.status = ⟨s.status.busy, s.status.done, s.status.ok, s.status.measValid, s.status.probeHit,
      s.status.errKind⟩ := rfl
  cases hdone : s.status.done with
  | false => rw [h.fresh hbusy hdone]; exact .fresh
  | true =>
    cases hok : s.status.ok with
    | true =>
      rw [heta, hbusy, hdone, hok, h.passed hdone hok]
      refine .passed _ _ fun hhit => ?_
      obtain ⟨hop, -⟩ := h.hit hhit
      exact (h.measurement hok).mpr hop
    | false =>
      obtain ⟨hne, hvalid⟩ := h.failed hdone hok
      rw [heta, hbusy, hdone, hok, hvalid]
      refine .failed _ _ hne fun hhit => ?_
      obtain ⟨-, -, hkind⟩ := h.hit hhit
      exact hkind

/-- Each form is one of the values R104 lists. -/
theorem StatusForm.statusByte_mem {f : Status} (h : StatusForm f) :
    statusByte f ∈ [0x00#8, 0x01#8, 0x11#8, 0x06#8, 0x0E#8, 0x1E#8, 0x22#8, 0x42#8, 0x62#8, 0x72#8,
      0x82#8, 0x92#8] := by
  cases h with
  | fresh => decide
  | running hit => cases hit <;> decide
  | passed valid hit h => revert valid hit; decide
  | failed hit kind hne h =>
    cases kind with
    | none => exact absurd rfl hne
    | _ => revert hit; decide

/-- Settles O47. -/
theorem statusValues : Obligations.StatusValues := fun _ hc => hc.statusForm.statusByte_mem

end Sys2Proof.Safety
end

section
/-! PROOFS. The pseudo-operations, and a Stretched MEASURE with a WAIT (O15, O56). -/

namespace Sys2Proof.Machine

open Sys2Proof.Safety

/-! ### A poll as a step -/

/-- A poll that reads `DONE` = 1 ends the `WAIT` (R103). -/
theorem step_wait_over {s : State} {rest : List Input} (hi : s.inputs = .hostWait :: rest)
    (hdone : s.status.done = true) : step s = .next { s with inputs := rest } :=
  (step_of_cons hi).trans (congrArg _ (pollStatus_done (s := { s with inputs := rest }) hdone))

/-- A poll that reads `DONE` = 0 leaves everything but the order of what is to come (log 18). -/
theorem step_wait_again {s : State} {rest : List Input} (hi : s.inputs = .hostWait :: rest)
    (hdone : s.status.done = false) : step s = .next { s with inputs := waitAgain rest } :=
  (step_of_cons hi).trans (congrArg _ (pollStatus_waiting (s := { s with inputs := rest }) hdone))

/-- With nothing to come from outside, the host polls for ever (R75). -/
theorem step_wait_stays {s : State} {rest : List Input} (hi : s.inputs = .hostWait :: rest)
    (hdone : s.status.done = false) (hhost : ∀ a ∈ rest, isHostAccess a = true) : step s = .next s := by
  rw [step_wait_again hi hdone, waitAgain_host hhost, ← hi]

/-- What comes next from outside goes ahead of the next poll (log 18). -/
theorem step_wait_outside {s : State} {held later : List Input} {e : Input}
    (hi : s.inputs = .hostWait :: (held ++ e :: later)) (hdone : s.status.done = false)
    (hheld : ∀ a ∈ held, isHostAccess a = true) (he : isHostAccess e = false) :
    step s = .next { s with inputs := e :: .hostWait :: (held ++ later) } := by
  rw [step_wait_again hi hdone, waitAgain_outside hheld he]

/-- CONSTRUCT is the host's write of `DEV_ADDR` (R214). -/
theorem step_construct {s : State} {addr : Byte} {rest : List Input} (hs : s.seq = .idle)
    (hi : s.inputs = expandPseudo (.construct addr) ++ rest) :
    step s = .next { s with devAddr := addr, inputs := rest } := by
  have haddr : (addr.setWidth 32).setWidth 8 = addr := BitVec.setWidth_setWidth_of_le addr (by decide)
  rw [(deviceAddressWrite s _ rest hi).left hs, haddr]

/-- Settles O15. -/
theorem pseudoOperations : Obligations.PseudoOperations := by
  refine ⟨fun _ _ _ => step_construct, rfl, fun s => ⟨rfl, waitOver_eq s⟩, fun s rest hi => ?_⟩
  rw [waitOver_eq]
  refine ⟨step_wait_over hi, step_wait_stays hi, ?_⟩
  rintro hdone held later e rfl hheld he
  exact step_wait_outside (held := held) hi hdone hheld he

/-! ### The final read of a MEASURE -/

/-- The answer of the 6-byte read: it failed, or both fields pass, or one does not (rows T12 to T14 of R175). -/
theorem answerRead6_cases (ok : Bool) (d : RData) (s : State) :
    (ok = false ∧ answerRead6 ok d s = raiseFail .readFailed (spoilReply (record (.read6 s.devAddr none) s))) ∨
    (ok = true ∧ framePasses (replyOf d) = true ∧ ∃ c, answerRead6 ok d s =
      completePass (commitResults (dec6 (replyOf d)).1 (dec6 (replyOf d)).2
        { record (.read6 s.devAddr (some (replyOf d))) s with rx := replyOf d, crc := c })) ∨
    (ok = true ∧ framePasses (replyOf d) = false ∧ ∃ c, answerRead6 ok d s =
      raiseFail .crcMismatch
        { record (.read6 s.devAddr (some (replyOf d))) s with rx := replyOf d, crc := c }) := by
  cases ok with
  | false => exact .inl ⟨rfl, rfl⟩
  | true =>
    by_cases hf : framePasses (replyOf d) = true
    · exact .inr (.inl ⟨rfl, hf, _, (frameCommit_eq _).trans (if_pos hf)⟩)
    · exact .inr (.inr ⟨rfl, Bool.eq_false_iff.mpr hf, _, (frameCommit_eq _).trans (if_neg hf)⟩)

/-- The final read keeps what the operation was given and ends its trace (R184). -/
theorem answerRead6_frame (ok : Bool) (d : RData) (s : State) :
    (answerRead6 ok d s).inputs = s.inputs ∧ (answerRead6 ok d s).devAddr = s.devAddr ∧
    (answerRead6 ok d s).trace = s.trace ++ [finalRead6 s.devAddr ok d] := by
  rcases answerRead6_cases ok d s with ⟨rfl, heq⟩ | ⟨rfl, -, c, heq⟩ | ⟨rfl, -, c, heq⟩ <;>
    rw [heq] <;> exact ⟨rfl, rfl, rfl⟩

/-- The answer of the final read alone decides the result; the diagnostics are those of the probes before it (R183). -/
theorem measureResult_answerRead6 {s : State} {hit : Bool} {n : Nat} (h : ControlInv s) (hs : s.seq = .read6)
    (hhit : s.status.probeHit = hit) (hcount : s.probeCnt.toNat = n) (ok : Bool) (d : RData) :
    MeasureResult (answerRead6 ok d s) ok d hit n := by
  subst hhit hcount
  have hbusy : s.seq ≠ .idle := by simp [hs]
  have hzero := h.result.absent (h.measValid_running hbusy)
  rcases answerRead6_cases ok d s with ⟨rfl, heq⟩ | ⟨rfl, hf, c, heq⟩ | ⟨rfl, hf, c, heq⟩ <;> rw [heq]
  · exact ⟨rfl, rfl, rfl, by simp, fun _ => hzero⟩
  · exact ⟨rfl, by simp [hf, statusPassed, statusMeasValid, measureErr], rfl, fun _ => ⟨rfl, rfl, rfl, rfl⟩,
      by simp [hf]⟩
  · exact ⟨rfl, by simp [hf, statusFailed, measureErr], rfl, by simp [hf], fun _ => hzero⟩

/-- A result does not read the inputs to come. -/
theorem measureResult_frame_inputs {t : State} {ok : Bool} {d : RData} {hit : Bool} {n : Nat}
    (h : MeasureResult t ok d hit n) (es : List Input) : MeasureResult { t with inputs := es } ok d hit n :=
  { h with }

/-! ### A Stretched MEASURE -/

/-- `w` is the request word of a Stretched MEASURE and `c` its command: two rows of R93. -/
def IsStretchedRequest (w : Byte) (c : Command) : Prop :=
  w = 0x01#8 ∧ c = ⟨0x7C#8, 0xA2#8⟩ ∨ w = 0x11#8 ∧ c = ⟨0x64#8, 0x58#8⟩

theorem IsStretchedRequest.spec {w : Byte} {c : Command} (h : IsStretchedRequest w c) :
    validRequest w = true ∧ selectCommand (latchOf w) = some c ∧ (latchOf w).op = 1#3 ∧
      (latchOf w).timing = .stretched := by
  rcases h with ⟨rfl, rfl⟩ | ⟨rfl, rfl⟩ <;> exact ⟨rfl, rfl, rfl, rfl⟩

/-- A Stretched MEASURE, just accepted, with its command write outstanding. -/
structure StretchedIssued (u : State) (a : Byte) (c : Command) : Prop where
  inv : ControlInv u
  seq : u.seq = .write
  op : u.opl.op = 1#3
  timing : u.opl.timing = .stretched
  cmd : u.cmd = c
  addr : u.devAddr = a
  trace : u.trace = []

/-- A Stretched MEASURE with its final read outstanding. -/
structure StretchedWritten (v : State) (a : Byte) (c : Command) : Prop where
  inv : ControlInv v
  seq : v.seq = .read6
  count : v.probeCnt = 0#5
  hit : v.status.probeHit = false
  addr : v.devAddr = a
  trace : v.trace = [.write a c.b0 c.b1 true]

/-- While an operation runs nothing is completed (R28). -/
theorem done_running {s : State} (h : ControlInv s) (hb : s.seq ≠ .idle) : s.status.done = false :=
  congrArg Status.done (h.status_running hb s.status.probeHit)

theorem StretchedIssued.done {u : State} {a : Byte} {c : Command} (h : StretchedIssued u a c) :
    u.status.done = false :=
  done_running h.inv (by simp [h.seq])

theorem StretchedIssued.frame_inputs {u : State} {a : Byte} {c : Command} (h : StretchedIssued u a c)
    (es : List Input) : StretchedIssued { u with inputs := es } a c :=
  { h with inv := h.inv.frame u.devAddr es u.trace u.draws }

theorem StretchedWritten.done {v : State} {a : Byte} {c : Command} (h : StretchedWritten v a c) :
    v.status.done = false :=
  done_running h.inv (by simp [h.seq])

theorem StretchedWritten.frame_inputs {v : State} {a : Byte} {c : Command} (h : StretchedWritten v a c)
    (es : List Input) : StretchedWritten { v with inputs := es } a c :=
  { h with inv := h.inv.frame v.devAddr es v.trace v.draws }

/-- The request's step leaves the command write outstanding (R161, R163). -/
theorem step_stretched_request {s : State} {data : Word32} {c : Command} {rest : List Input} (hs : s.seq = .idle)
    (hreq : IsStretchedRequest (requestWord data) c) (hi : s.inputs = .hostWrite 0#3 data :: rest) :
    ∃ u, step s = .next u ∧ StretchedIssued u s.devAddr c ∧ u.inputs = rest := by
  obtain ⟨hv, hsel, hop, htm⟩ := hreq.spec
  obtain ⟨c', hsel', heq⟩ := acceptRequest_spec hv { s with inputs := rest }
  obtain rfl : c' = c := Option.some.inj (hsel'.symm.trans hsel)
  exact ⟨_, (step_request hs hi).trans (congrArg _ heq),
    ⟨controlInv_accepted hv hsel, rfl, hop, htm, rfl, rfl, rfl⟩, rfl⟩

/-- The successful write's answer leaves the final read outstanding (R164, row T6 of R175). -/
theorem StretchedIssued.step_written {u : State} {a : Byte} {c : Command} {d : RData} {rest : List Input}
    (h : StretchedIssued u a c) (hi : u.inputs = .tpDone true d :: rest) :
    ∃ v, step u = .next v ∧ StretchedWritten v a c ∧ v.inputs = rest := by
  obtain ⟨hinv, hs, hop, htm, rfl, rfl, htrace⟩ := h
  obtain ⟨hcount, hmiss⟩ := hinv.probe.beforeProbes hs
  have hstep : step u = .next
      (issueRead6 (record (.write u.devAddr u.cmd.b0 u.cmd.b1 true) { u with inputs := rest })) := by
    simp [step_of_cons hi, reactTo, transportAnswer, answerWrite, afterWrite, hs, hop, htm]
  exact ⟨_, hstep, ⟨stepKeepsControl u _ hinv hstep, rfl, hcount, hmiss, rfl, by simp [htrace]⟩, rfl⟩

/-- The answer of the final read ends the operation with the result of R183. -/
theorem StretchedWritten.step_read {v : State} {a : Byte} {c : Command} {ok : Bool} {d : RData} {rest : List Input}
    (h : StretchedWritten v a c) (hi : v.inputs = .tpDone ok d :: rest) :
    ∃ t, step v = .next t ∧ MeasureResult t ok d false 0 ∧ t.inputs = rest ∧ t.devAddr = a ∧
      t.trace = [.write a c.b0 c.b1 true, finalRead6 a ok d] := by
  obtain ⟨hinv, hs, hcount, hmiss, rfl, htrace⟩ := h
  have hstep : step v = .next (answerRead6 ok d { v with inputs := rest }) := by
    simp [step_of_cons hi, reactTo, transportAnswer, hs]
  have hresult := measureResult_answerRead6 (hinv.frame v.devAddr rest v.trace v.draws) hs hmiss
    (congrArg BitVec.toNat hcount) ok d
  obtain ⟨hinputs, haddr, hread⟩ := answerRead6_frame ok d { v with inputs := rest }
  exact ⟨_, hstep, hresult, hinputs, haddr, by rw [hread, htrace]; rfl⟩

/-! ### With a WAIT -/

/-- Settles O56: each answer goes ahead of a poll, and the poll behind the last one finds `DONE` = 1. -/
theorem waitReturnsWhenDone : Obligations.WaitReturnsWhenDone := by
  intro s data c dw d okRead program rest hs hprogram hreq hi
  obtain ⟨u, hrequest, hissued, hui⟩ := step_stretched_request hs hreq hi
  have hpoll := step_wait_outside hui hissued.done hprogram rfl
  obtain ⟨v, hwrite, hwritten, hvi⟩ := (hissued.frame_inputs
    (.tpDone true dw :: .hostWait :: (program ++ .tpDone okRead d :: rest))).step_written rfl
  have hpoll' := step_wait_outside hvi hwritten.done hprogram rfl
  obtain ⟨t, hread, hresult, hti, haddr, htrace⟩ := (hwritten.frame_inputs
    (.tpDone okRead d :: .hostWait :: (program ++ rest))).step_read rfl
  have hover := step_wait_over hti (by rw [hresult.status])
  refine ⟨{ t with inputs := program ++ rest }, ?_, measureResult_frame_inputs hresult _, rfl, haddr, htrace⟩
  rw [run_of_step hrequest, run_of_step hpoll, run_of_step hwrite, run_of_step hpoll', run_of_step hread,
    run_of_step hover]
  rfl

end Sys2Proof.Machine
end

section
/-! PROOFS. The checksum register: a shift, a byte and a span, each linear over exclusive-or, and the syndrome of an error (R121 to
R124, R128). -/

namespace Sys2Proof.Machine

open Sys2Proof.Safety

/-! ### One shift -/

theorem crcBit_eq (r : Byte) : crcBit r = r <<< 1 ^^^ if r[7] then 0x31#8 else 0#8 := by
  cases h : r[7] <;> simp [crcBit, Config.crcPoly, h]

theorem crcBit_of_high {r : Byte} (h : r.getLsbD 7 = true) : crcBit r = r <<< 1 ^^^ 0x31#8 := if_pos h

/-- The x^8 term of the polynomial only cancels the bit shifted out (R120). -/
theorem setWidth_shiftLeft_xor_poly (r : Byte) : (r.setWidth 9 <<< 1 ^^^ 0x131#9).setWidth 8 = r <<< 1 ^^^ 0x31#8 := by
  have hshift : (r.setWidth 9 <<< 1).setWidth 8 = r <<< 1 := by
    ext i hi
    simp
  rw [BitVec.setWidth_xor, hshift]
  rfl

@[simp] theorem crcBit_zero : crcBit 0#8 = 0#8 := rfl

theorem crcBit_xor (x y : Byte) : crcBit (x ^^^ y) = crcBit x ^^^ crcBit y := by
  have hpoly : (if (x ^^^ y)[7] then 0x31#8 else 0#8) =
      (if x[7] then 0x31#8 else 0#8) ^^^ if y[7] then 0x31#8 else 0#8 := by
    cases hx : x[7] <;> cases hy : y[7] <;> simp [hx, hy]
  rw [crcBit_eq, crcBit_eq x, crcBit_eq y, hpoly, BitVec.shiftLeft_xor_distrib]
  ac_rfl

/-- The polynomial is odd: bit 0 after the shift tells bit 7 before it, and the other bits are only moved. -/
theorem eq_zero_of_crcBit_eq_zero {r : Byte} (h : crcBit r = 0#8) : r = 0#8 := by
  have hhigh : r[7] = false := by
    cases h7 : r[7]
    · rfl
    · have hbit := congrArg (fun x : Byte => x[0]) h
      simp [crcBit_eq, h7] at hbit
  have hshift : r <<< 1 = 0#8 := by simpa [crcBit_eq, hhigh] using h
  ext i hi
  obtain rfl | hlow : i = 7 ∨ i + 1 < 8 := by omega
  · simpa using hhigh
  · have hbit := congrArg (fun x : Byte => x.getLsbD (i + 1)) hshift
    simpa [hlow] using hbit

theorem crcBit_injective : Function.Injective crcBit := by
  intro c d h
  rw [← BitVec.xor_eq_zero_iff] at h ⊢
  exact eq_zero_of_crcBit_eq_zero (by rw [crcBit_xor, h])

theorem crcBit_iterate_xor (n : Nat) (c d : Byte) : crcBit^[n] (c ^^^ d) = crcBit^[n] c ^^^ crcBit^[n] d := by
  induction n with
  | zero => rfl
  | succ n ih => simp only [Function.iterate_succ_apply', ih, crcBit_xor]

theorem crcBit_iterate_eq_zero {n : Nat} {c : Byte} : crcBit^[n] c = 0#8 ↔ c = 0#8 := by
  have hzero : crcBit^[n] 0#8 = 0#8 := Function.iterate_fixed crcBit_zero n
  rw [← (crcBit_injective.iterate n).eq_iff (a := c), hzero]

/-! ### One byte -/

theorem crcByte_eq_iterate (c b : Byte) : crcByte c b = crcBit^[8] (c ^^^ b) := rfl

theorem crcByte_eq_crcByte_zero (c b : Byte) : crcByte c b = crcByte 0#8 (c ^^^ b) := by
  simp [crcByte_eq_iterate]

theorem crcByte_xor (c₁ c₂ b₁ b₂ : Byte) :
    crcByte (c₁ ^^^ c₂) (b₁ ^^^ b₂) = crcByte c₁ b₁ ^^^ crcByte c₂ b₂ := by
  simp only [crcByte_eq_iterate, ← crcBit_iterate_xor]
  congr 1
  ac_rfl

theorem crcByte_eq_zero {c b : Byte} : crcByte c b = 0#8 ↔ c = b := by
  rw [crcByte_eq_iterate, crcBit_iterate_eq_zero, BitVec.xor_eq_zero_iff]

theorem crcByte_self (b : Byte) : crcByte b b = 0#8 := crcByte_eq_zero.mpr rfl

/-- The 256 entries of 95_test_vectors.md section 2.4, each against the eight shifts. -/
theorem crcByte_zero_eq_table : ∀ x : Byte, some (crcByte 0#8 x) = crcTable[x.toNat]? := by decide +kernel

/-! ### Spans -/

@[simp] theorem crcFrom_nil (c : Byte) : crcFrom c [] = c := rfl

@[simp] theorem crcFrom_cons (c b : Byte) (bs : List Byte) : crcFrom c (b :: bs) = crcFrom (crcByte c b) bs := rfl

theorem crcFrom_concat (c : Byte) (bs : List Byte) (b : Byte) :
    crcFrom c (bs ++ [b]) = crcByte (crcFrom c bs) b := by
  simp [crcFrom]

/-- An error pattern added to a span, byte by byte (R128). -/
def addError (m e : List Byte) : List Byte := List.zipWith (fun a b => a ^^^ b) m e

theorem crcFrom_addError (c d : Byte) {m e : List Byte} (h : m.length = e.length) :
    crcFrom (c ^^^ d) (addError m e) = crcFrom c m ^^^ crcFrom d e := by
  induction m generalizing c d e with
  | nil => cases e with
    | nil => rfl
    | cons b bs => simp at h
  | cons a as ih => cases e with
    | nil => simp at h
    | cons b bs =>
      have htail := ih (crcByte c a) (crcByte d b) (Nat.succ.inj h)
      rwa [← crcByte_xor] at htail

theorem crc8_addError {m e : List Byte} (h : m.length = e.length) : crc8 (addError m e) = crc8 m ^^^ crc0 e := by
  have hlin := crcFrom_addError Config.crcInit 0#8 h
  rwa [BitVec.xor_zero] at hlin

/-- The checksum of an error begun at 0 is its syndrome: an error goes unnoticed exactly where it is 0. -/
theorem crc8_addError_eq_iff {m e : List Byte} (h : m.length = e.length) :
    crc8 (addError m e) = crc8 m ↔ crc0 e = 0#8 := by
  rw [crc8_addError h]
  simp

theorem crc8_concat_eq_zero {span : List Byte} {e : Byte} : crc8 (span ++ [e]) = 0#8 ↔ crc8 span = e := by
  rw [crc8, crcFrom_concat, crcByte_eq_zero, crc8]

theorem validate_iff_residue (span : List Byte) (e : Byte) : validate span e = true ↔ crc8 (span ++ [e]) = 0#8 := by
  rw [crc8_concat_eq_zero, validate, beq_iff_eq]

theorem crc0_pair_eq_zero {a b : Byte} : crc0 [a, b] = 0#8 ↔ crcByte 0#8 a = b := crcByte_eq_zero

end Sys2Proof.Machine
end

section
/-! PROOFS. The checksum register against long division by x^8 + x^5 + x^4 + 1, bit by bit (R120), and the bursts the division tells
(R128). -/

namespace Sys2Proof.Machine

open Sys2Proof.Safety

/-! ### Long division -/

/-- A byte that holds one bit, in bit 0. -/
def bitByte (t : Bool) : Byte := if t then 1#8 else 0#8

@[simp] theorem bitByte_false : bitByte false = 0#8 := rfl

theorem bitByte_getElem (t : Bool) {i : Nat} (hi : i < 8) : (bitByte t)[i] = (decide (i = 0) && t) := by
  cases t <;> simp [bitByte]

/-- A line of the division is a shift of the checksum register with the next bit brought down. -/
theorem divideBit_eq (r : Byte) (t : Bool) : divideBit r t = crcBit r ^^^ bitByte t := by
  have hhigh : (r ++ BitVec.ofBool t).getLsbD 8 = r[7] := by rw [BitVec.getLsbD_append]; rfl
  have hlow : (r ++ BitVec.ofBool t).setWidth 8 = r <<< 1 ^^^ bitByte t := by
    ext i hi
    rw [BitVec.getElem_setWidth, BitVec.getLsbD_append]
    cases i with
    | zero => simp [bitByte_getElem]
    | succ j => simp [bitByte_getElem, BitVec.getLsbD_eq_getElem (show j < 8 by omega)]
  rw [divideBit, crcBit_eq, hhigh]
  cases r[7] with
  | false => simp [hlow]
  | true =>
    rw [if_pos rfl, if_pos rfl, BitVec.setWidth_xor, hlow, BitVec.xor_assoc, BitVec.xor_assoc]
    exact congrArg _ (BitVec.xor_comm _ _)

theorem divideBit_false (r : Byte) : divideBit r false = crcBit r := by
  simp [divideBit_eq]

theorem divideBit_xor (x y : Byte) (t : Bool) : divideBit (x ^^^ y) t = crcBit x ^^^ divideBit y t := by
  rw [divideBit_eq, divideBit_eq, crcBit_xor, BitVec.xor_assoc]

/-- While the bits of a byte are brought down into a clear register, nothing is subtracted. -/
theorem divideBit_ushiftRight (b : Byte) (m : Nat) : divideBit (b >>> (m + 1)) (b.getLsbD m) = b >>> m := by
  have hhigh : (b >>> (m + 1))[7] = false := by simp
  rw [divideBit_eq, crcBit_eq, hhigh]
  ext i hi
  cases i with
  | zero => simp [bitByte_getElem]
  | succ j => simp [bitByte_getElem]; congr 1; omega

theorem foldl_divideBit_bitsOf_zero (b : Byte) : (bitsOf b).foldl divideBit 0#8 = b := by
  have hzero : b >>> 8 = 0#8 := by ext i hi; simp
  simp only [bitsOf, List.foldl, ← hzero, divideBit_ushiftRight]
  simp

theorem foldl_divideBit_false (r : Byte) (n : Nat) : (List.replicate n false).foldl divideBit r = crcBit^[n] r := by
  induction n generalizing r with
  | zero => rfl
  | succ n ih => rw [List.replicate_succ, List.foldl_cons, divideBit_false, ih, Function.iterate_succ_apply]

theorem foldl_divideBit_xor (r : Byte) (bits : List Bool) :
    bits.foldl divideBit r = crcBit^[bits.length] r ^^^ bits.foldl divideBit 0#8 := by
  induction bits generalizing r with
  | nil => simp
  | cons t bits ih =>
    calc bits.foldl divideBit (divideBit r t)
      _ = crcBit^[bits.length] (crcBit r ^^^ divideBit 0#8 t) ^^^ bits.foldl divideBit 0#8 := by
        rw [ih, ← divideBit_xor, BitVec.xor_zero]
      _ = crcBit^[bits.length + 1] r ^^^ bits.foldl divideBit (divideBit 0#8 t) := by
        rw [ih (divideBit 0#8 t), crcBit_iterate_xor, BitVec.xor_assoc, Function.iterate_succ_apply]

theorem foldl_divideBit_bitsOf (r b : Byte) : (bitsOf b).foldl divideBit r = crcBit^[8] r ^^^ b := by
  rw [foldl_divideBit_xor, foldl_divideBit_bitsOf_zero]; rfl

/-- The checksum register is the division's own, eight shifts further on: those the eight zero bits make. -/
theorem crcFrom_eq_foldl_divideBit (r : Byte) (span : List Byte) :
    crcFrom (crcBit^[8] r) span = crcBit^[8] ((span.flatMap bitsOf).foldl divideBit r) := by
  induction span generalizing r with
  | nil => rfl
  | cons b bs ih =>
    rw [List.flatMap_cons, List.foldl_append, foldl_divideBit_bitsOf, ← ih, crcFrom_cons, crcByte_eq_iterate]

theorem crc0_eq_polyRemainder (span : List Byte) :
    crc0 span = polyRemainder (span.flatMap bitsOf ++ List.replicate 8 false) := by
  rw [polyRemainder, List.foldl_append, foldl_divideBit_false]
  exact crcFrom_eq_foldl_divideBit 0#8 span

theorem crc8_cons_eq_crc0 (b : Byte) (bs : List Byte) : crc8 (b :: bs) = crc0 ((b ^^^ 0xFF#8) :: bs) := by
  have hbyte : crcByte 0xFF#8 b = crcByte 0#8 (b ^^^ 0xFF#8) := by
    rw [crcByte_eq_crcByte_zero, BitVec.xor_comm]
  exact congrArg (crcFrom · bs) hbyte

/-! ### Bursts -/

/-- The 24 bits of a field and its checksum, as the three bytes they arrive in. -/
def fieldBytes (e : BitVec 24) : List Byte := [e.extractLsb' 16 8, e.extractLsb' 8 8, e.extractLsb' 0 8]

theorem fieldBits_shiftLeft {e : BitVec 24} (h : e.getLsbD 23 = false) :
    false :: (fieldBytes (e <<< 1)).flatMap bitsOf = (fieldBytes e).flatMap bitsOf ++ [false] := by
  simpa [fieldBytes, bitsOf] using h

theorem polyRemainder_fieldBits_shiftLeft {e : BitVec 24} (h : e.getLsbD 23 = false) :
    polyRemainder ((fieldBytes (e <<< 1)).flatMap bitsOf) = crcBit (polyRemainder ((fieldBytes e).flatMap bitsOf)) := by
  have hbits := congrArg polyRemainder (fieldBits_shiftLeft h)
  simpa [polyRemainder, divideBit_false] using hbits

/-- Sixteen zero bits and then the pattern leave the pattern; each place it moves up is one shift more. -/
theorem polyRemainder_burst (p : Byte) {k : Nat} (hk : k ≤ 16) :
    polyRemainder ((fieldBytes (p.setWidth 24 <<< k)).flatMap bitsOf) = crcBit^[k] p := by
  induction k with
  | zero =>
    have hbits : (fieldBytes (p.setWidth 24 <<< 0)).flatMap bitsOf = List.replicate 16 false ++ bitsOf p := by
      simp [fieldBytes, bitsOf]
    rw [hbits, polyRemainder, List.foldl_append, foldl_divideBit_false, foldl_divideBit_bitsOf]
    simp
  | succ k ih =>
    have hhigh : (p.setWidth 24 <<< k).getLsbD 23 = false := by
      rw [BitVec.getLsbD_shiftLeft, BitVec.getLsbD_setWidth, BitVec.getLsbD_of_ge p (23 - k) (by omega)]
      simp
    rw [Function.iterate_succ_apply', ← ih (by omega), ← polyRemainder_fieldBits_shiftLeft hhigh,
      ← BitVec.shiftLeft_add]

theorem crc0_burst_ne_zero {p : Byte} {k : Nat} (hp : p ≠ 0#8) (hk : k ≤ 16) :
    crc0 (fieldBytes (p.setWidth 24 <<< k)) ≠ 0#8 := by
  rw [crc0_eq_polyRemainder, polyRemainder, List.foldl_append, foldl_divideBit_false, ← polyRemainder,
    polyRemainder_burst p hk, Ne, crcBit_iterate_eq_zero, crcBit_iterate_eq_zero]
  exact hp

end Sys2Proof.Machine
end

section
/-! PROOFS. The multiples of 0x131 below 2^16 are the error patterns of syndrome 0 (R128). -/

namespace Sys2Proof.Machine

open Sys2Proof.Safety

/-- What bit `i` of the factor `m` adds to the product by 0x131. -/
def polyTerm (m : Byte) (i : Nat) : Raw16 := if m.getLsbD i then 0x131#16 <<< i else 0#16

theorem polyTerm_xor (m n : Byte) (i : Nat) : polyTerm (m ^^^ n) i = polyTerm m i ^^^ polyTerm n i := by
  cases hm : m.getLsbD i <;> cases hn : n.getLsbD i <;> simp [polyTerm, hm, hn]

theorem polyMultiple_eq_foldl (m : Byte) :
    polyMultiple m = (List.range 8).foldl (fun acc i => acc ^^^ polyTerm m i) 0#16 := by
  have hstep : (fun (acc : Raw16) i => if m.getLsbD i then acc ^^^ (0x131#16 <<< i) else acc) =
      fun acc i => acc ^^^ polyTerm m i := by
    funext acc i
    cases h : m.getLsbD i <;> simp [polyTerm, h]
  rw [polyMultiple, hstep]

theorem foldl_polyTerm_xor (m n : Byte) (is : List Nat) (v w : Raw16) :
    is.foldl (fun acc i => acc ^^^ polyTerm (m ^^^ n) i) (v ^^^ w) =
      is.foldl (fun acc i => acc ^^^ polyTerm m i) v ^^^ is.foldl (fun acc i => acc ^^^ polyTerm n i) w := by
  induction is generalizing v w with
  | nil => rfl
  | cons i is ih =>
    simp only [List.foldl_cons, ← ih, polyTerm_xor]
    congr 1
    ac_rfl

theorem polyMultiple_xor (m n : Byte) : polyMultiple (m ^^^ n) = polyMultiple m ^^^ polyMultiple n := by
  simp only [polyMultiple_eq_foldl]
  exact foldl_polyTerm_xor m n (List.range 8) 0#16 0#16

@[simp] theorem polyMultiple_zero : polyMultiple 0#8 = 0#16 := rfl

theorem polyMultiple_one_shiftLeft {i : Nat} (hi : i < 8) : polyMultiple (1#8 <<< i) = 0x131#16 <<< i := by
  interval_cases i <;> rfl

/-- The shift with all nine bits of the polynomial, kept where it can be seen that 0x131 was taken off (R121). -/
theorem setWidth_crcBit (r : Byte) :
    (crcBit r).setWidth 16 = r.setWidth 16 <<< 1 ^^^ if r[7] then 0x131#16 else 0#16 := by
  have hshift : (r <<< 1).setWidth 16 = r.setWidth 16 <<< 1 ^^^ if r[7] then BitVec.twoPow 16 8 else 0#16 := by
    ext i hi
    obtain hlow | rfl | hhigh := Nat.lt_trichotomy i 8
    · have hin := BitVec.getLsbD_eq_getElem (x := r) (show i - 1 < 8 by omega)
      cases r[7] <;> simp [hin, hlow, BitVec.getElem_twoPow, hlow.ne]
    · cases h : r[7] <;> simp [h, BitVec.getElem_twoPow]
    · have hout := BitVec.getLsbD_of_ge r (i - 1) (by omega)
      cases r[7] <;> simp [hout, BitVec.getElem_twoPow, hhigh.ne', hhigh.le]
  rw [crcBit_eq, BitVec.setWidth_xor, hshift, BitVec.xor_assoc]
  cases r[7] <;> rfl

/-- Each shift takes a multiple of the polynomial off `r` times a power of x, so `n` of them leave its remainder. -/
theorem exists_quotient (r : Byte) {n : Nat} (hn : n ≤ 8) :
    ∃ m, r.setWidth 16 <<< n ^^^ (crcBit^[n] r).setWidth 16 = polyMultiple m := by
  induction n generalizing r with
  | zero => exact ⟨0#8, by simp⟩
  | succ n ih =>
    obtain ⟨m, hm⟩ := ih (crcBit r) (by omega)
    refine ⟨(if r[7] then 1#8 <<< n else 0#8) ^^^ m, ?_⟩
    have hquot : polyMultiple (if r[7] then 1#8 <<< n else 0#8) = (if r[7] then 0x131#16 else 0#16) <<< n := by
      cases r[7] with
      | false => simp
      | true => exact polyMultiple_one_shiftLeft (by omega)
    have hshift : r.setWidth 16 <<< (n + 1) =
        (if r[7] then 0x131#16 else 0#16) <<< n ^^^ (crcBit r).setWidth 16 <<< n := by
      rw [setWidth_crcBit, BitVec.shiftLeft_xor_distrib, ← BitVec.shiftLeft_add, Nat.add_comm 1 n, BitVec.xor_comm,
        BitVec.xor_assoc, BitVec.xor_self, BitVec.xor_zero]
    rw [Function.iterate_succ_apply, hshift, BitVec.xor_assoc, hm, polyMultiple_xor, hquot]

/-- A 16-bit pattern as the two bytes of a field. -/
def dataBytes (w : Raw16) : List Byte := [w.extractLsb' 8 8, w.extractLsb' 0 8]

theorem dataBytes_append (a b : Byte) : dataBytes (a ++ b) = [a, b] := by
  rw [dataBytes, BitVec.extractLsb'_append_eq_left, BitVec.extractLsb'_append_eq_right]

theorem crc0_dataBytes_xor (v w : Raw16) :
    crc0 (dataBytes (v ^^^ w)) = crc0 (dataBytes v) ^^^ crc0 (dataBytes w) := by
  have hbytes : dataBytes (v ^^^ w) = addError (dataBytes v) (dataBytes w) := by
    simp [dataBytes, addError, BitVec.extractLsb'_xor]
  rw [hbytes]
  exact crcFrom_addError 0#8 0#8 rfl

theorem crc0_dataBytes_zero : crc0 (dataBytes 0#16) = 0#8 :=
  crc0_pair_eq_zero.mpr (crcByte_self 0#8)

theorem crc0_poly_shiftLeft : ∀ i < 8, crc0 (dataBytes (0x131#16 <<< i)) = 0#8 := by decide +kernel

/-- Every term of the product has syndrome 0. -/
theorem crc0_polyMultiple (m : Byte) : crc0 (dataBytes (polyMultiple m)) = 0#8 := by
  rw [polyMultiple_eq_foldl]
  refine List.foldlRecOn (motive := fun w => crc0 (dataBytes w) = 0#8) _ _ crc0_dataBytes_zero fun w hw i hi => ?_
  have hterm : crc0 (dataBytes (polyTerm m i)) = 0#8 := by
    rw [polyTerm]
    split
    · exact crc0_poly_shiftLeft i (List.mem_range.mp hi)
    · exact crc0_dataBytes_zero
  rw [crc0_dataBytes_xor, hw, hterm, BitVec.xor_zero]

theorem append_eq_xor (a b : Byte) : a ++ b = a.setWidth 16 <<< 8 ^^^ b.setWidth 16 := by
  ext i hi
  rw [BitVec.getElem_append]
  by_cases h : i < 8
  · simp [h]
  · simp [h, BitVec.getLsbD_of_ge b i (by omega), BitVec.getLsbD_eq_getElem (show i - 8 < 8 by omega)]

theorem crc0_pair_eq_zero_iff_multiple (a b : Byte) : crc0 [a, b] = 0#8 ↔ ∃ m : Byte, a ++ b = polyMultiple m := by
  constructor
  · intro h
    obtain rfl := crc0_pair_eq_zero.mp h
    rw [append_eq_xor, crcByte_eq_iterate, BitVec.zero_xor]
    exact exists_quotient a (Nat.le_refl 8)
  · rintro ⟨m, hm⟩
    rw [← dataBytes_append, hm, crc0_polyMultiple]

end Sys2Proof.Machine
end

section
/-! PROOFS. The statements about the checksum validator, O32, O33 and O35 to O40. -/

namespace Sys2Proof.Machine

open Sys2Proof.Safety

/-- Settles O33: the byte step sees register and byte only as their exclusive-or. -/
theorem crcByteTable : Obligations.CrcByteTable := by
  intro c b
  rw [crcByte_eq_crcByte_zero]
  exact crcByte_zero_eq_table (c ^^^ b)

/-- Settles O35: a shift is linear, so a byte is, and so is a span by induction. -/
theorem crcLinear : Obligations.CrcLinear :=
  ⟨crcByte_xor, fun _ _ h => crc8_addError h⟩

/-- Settles O36: absorbing what the register holds clears it, and nothing else does. -/
theorem crcZeroResidue : Obligations.CrcZeroResidue :=
  fun span => ⟨crc8_concat_eq_zero.mpr rfl, validate_iff_residue span⟩

theorem crc8_pair_error_eq_iff (hi lo e₁ e₂ : Byte) :
    crc8 [hi ^^^ e₁, lo ^^^ e₂] = crc8 [hi, lo] ↔ crcByte 0#8 e₁ = e₂ :=
  (crc8_addError_eq_iff (m := [hi, lo]) (e := [e₁, e₂]) rfl).trans crc0_pair_eq_zero

/-- Settles O37: an error in one byte alone has syndrome 0 only where it is no error. -/
theorem singleBitErrorsDetected : Obligations.SingleBitErrorsDetected := by
  refine ⟨fun hi lo i h => ?_, by decide +kernel, by decide +kernel⟩
  have hbit : 1#8 <<< i ≠ 0#8 := by interval_cases i <;> decide
  constructor
  · have hiff := crc8_pair_error_eq_iff hi lo (1#8 <<< i) 0#8
    rw [BitVec.xor_zero, crcByte_eq_zero] at hiff
    exact fun hsame => hbit (hiff.mp hsame).symm
  · have hiff := crc8_pair_error_eq_iff hi lo 0#8 (1#8 <<< i)
    rw [BitVec.xor_zero, crcByte_self] at hiff
    exact fun hsame => hbit (hiff.mp hsame).symm

/-- Settles O38: an unnoticed error has syndrome 0, and the quotient of the division is its factor. -/
theorem undetectedErrors : Obligations.UndetectedErrors := fun hi lo e₁ e₂ =>
  (crc8_addError_eq_iff (m := [hi, lo]) (e := [e₁, e₂]) rfl).trans (crc0_pair_eq_zero_iff_multiple e₁ e₂)

theorem validate_error_iff (hi lo : Byte) (e : BitVec 24) :
    validate [hi ^^^ e.extractLsb' 16 8, lo ^^^ e.extractLsb' 8 8] (crc8 [hi, lo] ^^^ e.extractLsb' 0 8) = true ↔
      crc0 (fieldBytes e) = 0#8 := by
  have hsyndrome : crc8 (addError ([hi, lo] ++ [crc8 [hi, lo]]) (fieldBytes e)) = crc0 (fieldBytes e) := by
    rw [crc8_addError (by rfl), crc8_concat_eq_zero.mpr rfl, BitVec.zero_xor]
  rw [validate_iff_residue, ← hsyndrome]
  rfl

/-- Settles O39: the syndrome of a burst is its pattern shifted on, and a shift of a register that is not 0 is not 0. -/
theorem burstErrorsDetected : Obligations.BurstErrorsDetected := by
  intro hi lo p k hp hk
  rw [← Bool.not_eq_true, validate_error_iff]
  exact crc0_burst_ne_zero hp hk

/-- Settles O40: the initial value goes into the first byte, and the register stays eight shifts ahead of the division. -/
theorem crcIsPolynomialRemainder : Obligations.CrcIsPolynomialRemainder := by
  intro b bs
  rw [crc8_cons_eq_crc0, crc0_eq_polyRemainder, List.flatMap_cons]

/-- Settles O32: the 9-bit form differs only in the bit the cut takes off. -/
theorem crcBitStep : Obligations.CrcBitStep := by
  refine ⟨fun r => ?_, fun r h => crcBit_of_high h, by decide, by decide, by decide, by decide⟩
  split
  · rw [crcBit_of_high ‹_›, setWidth_shiftLeft_xor_poly]
  · rw [crcBit, if_neg ‹_›]

end Sys2Proof.Machine
end

section
/-! PROOFS. The presence reply (O30): the answer of the 3-byte read, and the step that takes it. -/

namespace Sys2Proof.Machine

theorem transportAnswer_read3 {s : State} (h : s.seq = .read3) (ok : Bool) (d : RData) :
    transportAnswer ok d s = .next (answerRead3 ok d s) := by
  simp [transportAnswer, h]

/-- A successful 3-byte read: the checksum of the first two bytes, against the third, alone decides (rows T16 and T17 of R175). -/
theorem answerRead3_success (d : RData) (s : State) :
    answerRead3 true d s =
      let s' : State :=
        { record (.read3 s.devAddr (some (rdataByte d 0, rdataByte d 1, rdataByte d 2))) s with
          rx := loadReply3 d s.rx, crc := crc8 [rdataByte d 0, rdataByte d 1] }
      if crc8 [rdataByte d 0, rdataByte d 1] = rdataByte d 2 then completePass s'
      else raiseFail .crcMismatch s' := by
  simp only [answerRead3, if_true, presenceCheck_eq, validate, beq_iff_eq]
  rfl

/-- Settles O30: the step is the answer of the 3-byte read, which completes or fails by its checksum. -/
theorem presenceReplyChecked : Obligations.PresenceReplyChecked := by
  intro s d rest hs hi
  have hstep : step s = .next (answerRead3 true d { s with inputs := rest }) :=
    (step_of_cons hi).trans (transportAnswer_read3 (s := { s with inputs := rest }) hs true d)
  rw [hstep, answerRead3_success]
  by_cases hcrc : crc8 [rdataByte d 0, rdataByte d 1] = rdataByte d 2
  · simp only [if_pos hcrc]
    rfl
  · simp only [if_neg hcrc]
    rfl

end Sys2Proof.Machine
end

section
/-! PROOFS. Acceptance and the command write (O16 to O22, O31): the next state of each, from the operations that make it. -/

namespace Sys2Proof.Machine

/-! ### Acceptance -/

/-- A host operation of an idle block: latch, command, BUSY alone set, counter and results cleared, command write issued (R161,
R163). -/
theorem exec_request_idle {s : State} {w : Byte} {i : Instr} {c : Command} (hs : s.seq = .idle)
    (hd : decodeReq w = .instr i) (hv : validRequest w = true) (hc : selectCommand (latchOf w) = some c) :
    exec i s = .next { s with
      seq := .write, opl := latchOf w, cmd := c, probeCnt := 0#5
      status := ⟨true, false, false, false, false, .none⟩
      tRaw := 0#16, rhRaw := 0#16, temp := 0#32, rh := 0#32, trace := [] } := by
  have hload := loadCommand_of_some (s := latchRequest w s) hc
  rw [exec_of_decodeReq hd, hostRequest_idle hs, acceptRequest_valid hv, hload]
  rfl

/-- Settles O16: the four rows of R150. -/
theorem measureRequestsAccepted : Obligations.MeasureRequestsAccepted := fun _ hs =>
  ⟨exec_request_idle hs (w := 0x01#8) rfl rfl rfl, exec_request_idle hs (w := 0x09#8) rfl rfl rfl,
    exec_request_idle hs (w := 0x11#8) rfl rfl rfl, exec_request_idle hs (w := 0x19#8) rfl rfl rfl⟩

/-- Settles O17: the three rows of R151. -/
theorem peripheralRequestsAccepted : Obligations.PeripheralRequestsAccepted := fun _ hs =>
  ⟨exec_request_idle hs (w := 0x02#8) rfl rfl rfl, exec_request_idle hs (w := 0x03#8) rfl rfl rfl,
    exec_request_idle hs (w := 0x04#8) rfl rfl rfl⟩

/-! ### The answer of the command write -/

/-- `u` with its command write answered and in the trace. -/
def writeAnswered (ok : Bool) (u : State) : State := record (.write u.devAddr u.cmd.b0 u.cmd.b1 ok) u

theorem answerWrite_failed (u : State) :
    answerWrite false u = .next (raiseFail .writeFailed (writeAnswered false u)) := rfl

section Written

variable {u : State}

/-- Row T6 of R175. -/
theorem answerWrite_stretched (hop : u.opl.op = 1#3) (htm : u.opl.timing = .stretched) :
    answerWrite true u = .next (issueRead6 (writeAnswered true u)) := by
  simp [answerWrite, afterWrite, writeAnswered, hop, htm]

/-- Row T7. -/
theorem answerWrite_polled (hop : u.opl.op = 1#3) (htm : u.opl.timing = .polled) :
    answerWrite true u = .next (issueProbe 1#5 (writeAnswered true u)) := by
  simp [answerWrite, afterWrite, writeAnswered, hop, htm]

/-- Row T5. -/
theorem answerWrite_presence (hop : u.opl.op = 2#3) :
    answerWrite true u = .next (issueRead3 (writeAnswered true u)) := by
  simp [answerWrite, afterWrite, writeAnswered, hop]

/-- Row T4. -/
theorem answerWrite_power (hop : u.opl.op = 3#3 ∨ u.opl.op = 4#3) :
    answerWrite true u = .next (completePass (writeAnswered true u)) := by
  rcases hop with hop | hop <;> simp [answerWrite, afterWrite, writeAnswered, hop]

end Written

/-! ### A wire command whose write is answered -/

/-- A wire command takes the answer of the write that carries its bytes (R164; log 3): `f` is what that answer does to the state in
which the write is in the trace. -/
theorem exec_command_answered {s : State} {i : Instr} {c0 c1 : Byte} {ok : Bool} {d : RData} {rest : List Input}
    (f : State → State) (hd : decodeWire c0 c1 = .instr i) (hs : s.seq = .write) (hc : s.cmd = ⟨c0, c1⟩)
    (hi : s.inputs = .tpDone ok d :: rest)
    (hf : answerWrite ok { s with inputs := rest } = .next (f (writeAnswered ok { s with inputs := rest }))) :
    exec i s = .next (f { s with inputs := rest, trace := s.trace ++ [.write s.devAddr c0 c1 ok] }) := by
  have hb0 : s.cmd.b0 = c0 := congrArg Command.b0 hc
  have hb1 : s.cmd.b1 = c1 := congrArg Command.b1 hc
  subst hb0 hb1
  calc exec i s = commandWrite s.cmd.b0 s.cmd.b1 s := exec_of_decodeWire hd s
    _ = answerWrite ok { s with inputs := rest } := commandWrite_answered hs hi
    _ = .next (f (writeAnswered ok { s with inputs := rest })) := hf

/-- Settles O18. -/
theorem stretchedCommandsWritten : Obligations.StretchedCommandsWritten := fun _ _ _ hs hi hop htm =>
  ⟨fun hc => exec_command_answered issueRead6 rfl hs hc hi (answerWrite_stretched hop htm),
    fun hc => exec_command_answered issueRead6 rfl hs hc hi (answerWrite_stretched hop htm)⟩

/-- Settles O19. -/
theorem polledCommandsWritten : Obligations.PolledCommandsWritten := fun _ _ _ hs hi hop htm =>
  ⟨fun hc => exec_command_answered (issueProbe 1#5) rfl hs hc hi (answerWrite_polled hop htm),
    fun hc => exec_command_answered (issueProbe 1#5) rfl hs hc hi (answerWrite_polled hop htm)⟩

/-- Settles O20. -/
theorem getIdCommandWritten : Obligations.GetIdCommandWritten := fun _ _ _ hs hi hop hc =>
  exec_command_answered issueRead3 rfl hs hc hi (answerWrite_presence hop)

/-- Settles O21. -/
theorem sleepWakeCommandsWritten : Obligations.SleepWakeCommandsWritten := fun _ _ _ hs hi =>
  ⟨fun hop hc => exec_command_answered completePass rfl hs hc hi (answerWrite_power (.inl hop)),
    fun hop hc => exec_command_answered completePass rfl hs hc hi (answerWrite_power (.inr hop))⟩

/-- Settles O22: a failed write does not look at the command. -/
theorem failedCommandWrites : Obligations.FailedCommandWrites := fun _ _ _ _ _ _ hrow hs hc hi =>
  exec_command_answered (raiseFail .writeFailed) (decodeWire_of_mem_wireCommands _ hrow) hs hc hi
    (answerWrite_failed _)

/-! ### The end of an operation -/

/-- Settles O31: each of the two operations is one update of `STATUS` and the sequencer. -/
theorem endOfOperation : Obligations.EndOfOperation := ⟨fun _ _ => rfl, fun _ => rfl⟩

end Sys2Proof.Machine
end

section
/-! PROOFS. The sequencer's answers as steps (O24 to O29), in the order of rows T8 to T15 of R175. -/

namespace Sys2Proof.Machine

open Sys2Proof.Safety

/-! ### The step of an answer, by the waiting state -/

section Answered

variable {s : State} {ok : Bool} {d : RData} {rest : List Input}

theorem step_answerWrite (hs : s.seq = .write) (hi : s.inputs = .tpDone ok d :: rest) :
    step s = answerWrite ok { s with inputs := rest } :=
  (step_of_cons hi).trans (transportAnswer_write (s := { s with inputs := rest }) hs ok d)

theorem step_answerProbe (hs : s.seq = .probe) (hi : s.inputs = .tpDone ok d :: rest) :
    step s = .next (answerProbe ok { s with inputs := rest }) := by
  rw [step_of_cons hi]
  simp [reactTo, transportAnswer, hs]

theorem step_answerDelay (hs : s.seq = .delay) (hi : s.inputs = .dlDone :: rest) :
    step s = .next (answerDelay { s with inputs := rest }) := by
  rw [step_of_cons hi]
  simp [reactTo, delayReturn, hs]

theorem step_answerRead6 (hs : s.seq = .read6) (hi : s.inputs = .tpDone ok d :: rest) :
    step s = .next (answerRead6 ok d { s with inputs := rest }) := by
  rw [step_of_cons hi]
  simp [reactTo, transportAnswer, hs]

theorem step_answerRead3 (hs : s.seq = .read3) (hi : s.inputs = .tpDone ok d :: rest) :
    step s = .next (answerRead3 ok d { s with inputs := rest }) :=
  (step_of_cons hi).trans (transportAnswer_read3 (s := { s with inputs := rest }) hs ok d)

end Answered

/-! ### Probes and delays -/

section Polling

variable {s : State} {d : RData} {rest : List Input}

/-- Row T8. -/
theorem step_probeHit (hs : s.seq = .probe) (hi : s.inputs = .tpDone true d :: rest) :
    step s = .next { s with
      seq := .read6, inputs := rest, status := { s.status with probeHit := true }
      trace := s.trace ++ [.read1 s.devAddr true] } := step_answerProbe hs hi

/-- Row T9. -/
theorem step_probeMissed (hs : s.seq = .probe) (hi : s.inputs = .tpDone false d :: rest) :
    step s = .next { s with
      seq := .delay, inputs := rest, trace := s.trace ++ [.read1 s.devAddr false] } := step_answerProbe hs hi

/-- Row T10. -/
theorem step_nextProbe (hs : s.seq = .delay) (hi : s.inputs = .dlDone :: rest) (hlt : s.probeCnt.toNat < 20) :
    step s = .next { s with
      seq := .probe, probeCnt := s.probeCnt + 1#5, inputs := rest, trace := s.trace ++ [.delay 1#8] } :=
  (step_answerDelay hs hi).trans (congrArg _ (if_pos (c := s.probeCnt < Config.probeMax) hlt))

/-- Row T11. -/
theorem step_probesExhausted (hs : s.seq = .delay) (hi : s.inputs = .dlDone :: rest)
    (hge : ¬ s.probeCnt.toNat < 20) :
    step s = .next { s with seq := .read6, inputs := rest, trace := s.trace ++ [.delay 1#8] } :=
  (step_answerDelay hs hi).trans (congrArg _ (if_neg (c := s.probeCnt < Config.probeMax) hge))

end Polling

/-- Settles O24. -/
theorem probeSucceeded : Obligations.ProbeSucceeded := fun _ _ _ hs hi => ⟨_, step_probeHit hs hi, rfl, rfl, rfl⟩

/-- Settles O25. -/
theorem probeFailed : Obligations.ProbeFailed := fun _ _ _ hs hi => ⟨_, step_probeMissed hs hi, rfl, rfl, rfl⟩

/-- Settles O26. -/
theorem delayReturned : Obligations.DelayReturned := by
  intro s rest hs hi
  split
  case isTrue hlt => exact ⟨_, step_nextProbe hs hi hlt, rfl, rfl, rfl⟩
  case isFalse hge => exact ⟨_, step_probesExhausted hs hi hge, rfl, rfl, rfl⟩

/-! ### The final read -/

/-- Settles O27: rows T12 and T15. -/
theorem finalReadFailed : Obligations.FinalReadFailed := fun _ _ _ hi =>
  ⟨fun hs => ⟨_, _, step_answerRead6 hs hi⟩, fun hs => ⟨_, _, step_answerRead3 hs hi⟩⟩

theorem be16_eq_append (h l : Byte) : be16 h l = h ++ l := by
  ext i hi
  rw [BitVec.getElem_append]
  by_cases hlow : i < 8
  · simp [be16, hlow]
  · simp [be16, hlow, BitVec.getLsbD_of_ge l i (by omega), BitVec.getLsbD_eq_getElem (show i - 8 < 8 by omega)]

/-- A frame passes when the two checksums are the bytes that were sent (R124, R143). -/
theorem framePasses_iff (r : Reply) : framePasses r = true ↔ crc8 [r.b0, r.b1] = r.b2 ∧ crc8 [r.b3, r.b4] = r.b5 := by
  simp [framePasses, validate]

/-- A frame both of whose fields pass (row T13): the second check is the last, so `CRC` is its checksum. -/
theorem frameCommit_pass {s : State} (hf : framePasses s.rx = true) :
    frameCommit s = completePass (commitResults (dec6 s.rx).1 (dec6 s.rx).2 { s with crc := s.rx.b5 }) := by
  have hpass := (frameCommit_eq s).trans (if_pos hf)
  obtain ⟨hT, hH⟩ := (framePasses_iff _).mp hf
  have hvalid : validate [s.rx.b0, s.rx.b1] s.rx.b2 = true := beq_iff_eq.mpr hT
  rw [hpass, hvalid, checkSecond_true, ← hH]
  rfl

/-- A frame with a field that does not pass (row T14); `CRC` holds one checksum or the other (log 6). -/
theorem frameCommit_fail {s : State} (hf : framePasses s.rx = false) :
    ∃ c, (c = crc8 [s.rx.b0, s.rx.b1] ∨ c = crc8 [s.rx.b3, s.rx.b4]) ∧
      frameCommit s = raiseFail .crcMismatch { s with crc := c } := by
  have hfail := (frameCommit_eq s).trans (if_neg (Bool.eq_false_iff.mp hf))
  rcases checkSecond_cases (validate [s.rx.b0, s.rx.b1] s.rx.b2) ⟨s.rx.b3, s.rx.b4, s.rx.b5⟩
      (checkField ⟨s.rx.b0, s.rx.b1, s.rx.b2⟩ s) with hsecond | hsecond
  · exact ⟨_, .inr rfl, hfail.trans (congrArg _ hsecond)⟩
  · exact ⟨_, .inl rfl, hfail.trans (congrArg _ hsecond)⟩

/-- Settles O28. -/
theorem measurementCommitted : Obligations.MeasurementCommitted := by
  intro s d rest hs hi hT hH
  have hpass := frameCommit_pass (s :=
    { record (.read6 s.devAddr (some (replyOf d))) { s with inputs := rest } with rx := replyOf d })
    ((framePasses_iff _).mpr ⟨hT, hH⟩)
  rw [← be16_eq_append, ← be16_eq_append]
  exact (step_answerRead6 hs hi).trans (congrArg _ hpass)

/-- Settles O29. -/
theorem measurementRejected : Obligations.MeasurementRejected := by
  intro s d rest hs hi hbad
  have hf : framePasses (replyOf d) = false := by
    rw [Bool.eq_false_iff, Ne, framePasses_iff, not_and_or]
    exact hbad
  obtain ⟨c, hc, hfail⟩ := frameCommit_fail (s :=
    { record (.read6 s.devAddr (some (replyOf d))) { s with inputs := rest } with rx := replyOf d }) hf
  exact ⟨c, hc, (step_answerRead6 hs hi).trans (congrArg _ hfail)⟩

end Sys2Proof.Machine
end

section
/-! PROOFS. Every input has a next state (O46), and every answer brings an operation nearer its end (O53, O54). -/

namespace Sys2Proof.Safety

open Sys2Proof.Machine

/-! ### The one fault is out of reach -/

/-- A latch with a command names an operation (R150, R151). -/
theorem op_of_selectCommand {l : Latch} {c : Command} (h : selectCommand l = some c) :
    l.op = 1#3 ∨ l.op = 2#3 ∨ l.op = 3#3 ∨ l.op = 4#3 := by
  by_contra hop
  push Not at hop
  obtain ⟨h1, h2, h3, h4⟩ := hop
  simp [selectCommand, selFixed, h1, h2, h3, h4] at h

theorem answerWrite_total {u : State} (hinv : ControlInv u) (hs : u.seq = .write) (ok : Bool) :
    ∃ t, answerWrite ok u = .next t := by
  cases ok with
  | false => exact ⟨_, answerWrite_failed u⟩
  | true =>
    obtain ⟨-, hcmd⟩ := hinv.latch.latched (by simp [hs])
    rcases op_of_selectCommand hcmd with hop | hop | hop
    · cases htm : u.opl.timing with
      | stretched => exact ⟨_, answerWrite_stretched hop htm⟩
      | polled => exact ⟨_, answerWrite_polled hop htm⟩
    · exact ⟨_, answerWrite_presence hop⟩
    · exact ⟨_, answerWrite_power hop⟩

theorem reactTo_total {u : State} (hinv : ControlInv u) (e : Input) : ∃ t, reactTo e u = .next t := by
  cases e with
  | tpDone ok d =>
    cases hs : u.seq with
    | write =>
      obtain ⟨t, ht⟩ := answerWrite_total hinv hs ok
      exact ⟨t, (transportAnswer_write hs ok d).trans ht⟩
    | _ => simp only [reactTo, transportAnswer, hs, Host.Outcome.next.injEq, exists_eq']
  | _ => exact ⟨_, rfl⟩

/-- Settles O46: the command write is the one answer that can fail to have a row, and under the invariant its latch names an
operation. -/
theorem sequencerNeverStuck : Obligations.SequencerNeverStuck := by
  intro s hinv
  cases hi : s.inputs with
  | nil => exact ⟨s, step_of_nil hi⟩
  | cons e rest =>
    rw [step_of_cons hi]
    exact reactTo_total (hinv.frame s.devAddr rest s.trace s.draws) e

/-! ### Progress -/

/-- The answer of the outstanding transaction has taken the block from `u` to `t`: fewer answers are left, and an operation that has
ended is done (R182). -/
structure Progress (u t : State) : Prop where
  inputs : t.inputs = u.inputs
  fewer : answersLeft t < answersLeft u
  ended : t.seq = .idle → t.status.done = true

theorem answersLeft_pos {u : State} (hb : u.seq ≠ .idle) : 0 < answersLeft u := by
  cases hs : u.seq with
  | idle => exact absurd hs hb
  | _ => simp [answersLeft, hs]

/-- No operation needs more than 42 answers: one write, at most twenty probes each with its delay, one read (R181). -/
theorem answersLeft_le {s : State} (hinv : ControlInv s) : answersLeft s ≤ 42 := by
  cases hs : s.seq with
  | probe =>
    obtain ⟨hne, -⟩ := hinv.probe.duringProbes (.inl hs)
    have hpos : s.probeCnt.toNat ≠ 0 := fun h => hne (BitVec.eq_of_toNat_eq h)
    simp only [answersLeft, hs]
    omega
  | delay => simp only [answersLeft, hs]; omega
  | _ => simp [answersLeft, hs]

/-- An answer that ends the operation is progress. -/
theorem Progress.of_end {u t : State} (hb : u.seq ≠ .idle) (hinputs : t.inputs = u.inputs) (hidle : t.seq = .idle)
    (hdone : t.status.done = true) : Progress u t where
  inputs := hinputs
  fewer := by
    have hzero : answersLeft t = 0 := by simp [answersLeft, hidle]
    exact hzero ▸ answersLeft_pos hb
  ended := fun _ => hdone

/-- An answer after which the operation goes on is progress where fewer answers are left. -/
theorem Progress.of_running {u t : State} (hinputs : t.inputs = u.inputs) (hb : t.seq ≠ .idle)
    (hfewer : answersLeft t < answersLeft u) : Progress u t :=
  ⟨hinputs, hfewer, fun hidle => absurd hidle hb⟩

section Answered

variable {u : State}

theorem progress_answerWrite {ok : Bool} {t : State} (hs : u.seq = .write) (h : answerWrite ok u = .next t) :
    Progress u t := by
  have hbusy : u.seq ≠ .idle := by simp [hs]
  cases ok with
  | false => cases h; exact .of_end hbusy rfl rfl rfl
  | true =>
    rcases afterWrite_cases (show afterWrite (writeAnswered true u) = .next t from h) with
      ⟨-, -, rfl⟩ | ⟨-, -, rfl⟩ | ⟨-, rfl⟩ | ⟨-, rfl⟩
    · exact .of_running rfl (by simp) (by simp [answersLeft, hs])
    · exact .of_running rfl (by simp) (by simp [answersLeft, hs])
    · exact .of_running rfl (by simp) (by simp [answersLeft, hs])
    · exact .of_end hbusy rfl rfl rfl

theorem progress_answerProbe (hs : u.seq = .probe) (ok : Bool) : Progress u (answerProbe ok u) := by
  cases ok with
  | false => exact .of_running rfl (by simp [answerProbe]) (by simp [answersLeft, answerProbe, hs])
  | true => exact .of_running rfl (by simp [answerProbe]) (by simp [answersLeft, answerProbe, hs])

theorem progress_answerDelay (hs : u.seq = .delay) : Progress u (answerDelay u) := by
  rcases answerDelay_cases u with ⟨hlt, heq⟩ | ⟨-, heq⟩ <;> rw [heq]
  · have hsucc := probeCnt_toNat_succ hlt
    have hcount : u.probeCnt.toNat < 20 := hlt
    refine .of_running rfl (by simp) ?_
    simp only [answersLeft, issueProbe_seq, issueProbe_probeCnt, hs, hsucc]
    omega
  · exact .of_running rfl (by simp) (by simp [answersLeft, hs])

theorem progress_answerRead6 (hs : u.seq = .read6) (ok : Bool) (d : RData) : Progress u (answerRead6 ok d u) := by
  rcases answerRead6_cases ok d u with ⟨-, heq⟩ | ⟨-, -, c, heq⟩ | ⟨-, -, c, heq⟩ <;> rw [heq] <;>
    exact .of_end (by simp [hs]) rfl rfl rfl

theorem progress_answerRead3 (hs : u.seq = .read3) (ok : Bool) (d : RData) : Progress u (answerRead3 ok d u) := by
  have hbusy : u.seq ≠ .idle := by simp [hs]
  cases ok with
  | false => exact .of_end hbusy rfl rfl rfl
  | true =>
    rw [answerRead3_success]
    split
    · exact .of_end hbusy rfl rfl rfl
    · exact .of_end hbusy rfl rfl rfl

theorem progress_answerInput {t : State} {a : Bool × RData} (hb : u.seq ≠ .idle)
    (h : reactTo (answerInput u a) u = .next t) : Progress u t := by
  cases hs : u.seq with
  | idle => exact absurd hs hb
  | delay =>
    simp only [answerInput, reactTo, delayReturn, hs] at h
    cases h
    exact progress_answerDelay hs
  | _ =>
    simp only [answerInput, hs] at h
    rcases transportAnswer_cases h with ⟨hq, -⟩ | ⟨hq, ha⟩ | ⟨hq, rfl⟩ | ⟨hq, rfl⟩ | ⟨hq, rfl⟩
    · simp [hs] at hq
    · exact progress_answerWrite hq ha
    · exact progress_answerProbe hq a.1
    · exact progress_answerRead6 hq a.1 a.2
    · exact progress_answerRead3 hq a.1 a.2

end Answered

/-- The step that takes the answer of the outstanding transaction is progress. -/
theorem progress_step {s t : State} {a : Bool × RData} {rest : List Input} (hb : s.seq ≠ .idle)
    (hi : s.inputs = answerInput s a :: rest) (hstep : step s = .next t) : Progress { s with inputs := rest } t :=
  progress_answerInput hb ((step_of_cons hi).symm.trans hstep)

/-- Settles O53. -/
theorem answersAlwaysProgress : Obligations.AnswersAlwaysProgress := by
  intro s t a rest hinv hb hi hstep
  obtain ⟨hinputs, hfewer, -⟩ := progress_step hb hi hstep
  exact ⟨hinputs, hfewer, answersLeft_le hinv⟩

/-! ### The end -/

theorem drive_idle {s : State} (hs : s.seq = .idle) (as : List (Bool × RData)) : drive as s = .next s := by
  cases as <;> simp [drive, hs]

theorem drive_cons {s t : State} {a : Bool × RData} (hb : s.seq ≠ .idle)
    (h : step { s with inputs := [answerInput s a] } = .next t) (as : List (Bool × RData)) :
    drive (a :: as) s = drive as t := by
  simp [drive, hb, h]

/-- With as many answers as the operation can still need, it ends. -/
theorem drive_ends {s : State} {as : List (Bool × RData)} (hinv : ControlInv s)
    (hdone : s.seq = .idle → s.status.done = true) (hlen : answersLeft s ≤ as.length) :
    ∃ t, drive as s = .next t ∧ t.seq = .idle ∧ t.status.done = true := by
  induction as generalizing s with
  | nil =>
    have hidle : s.seq = .idle := by
      by_contra hb
      exact absurd hlen (Nat.not_le.mpr (answersLeft_pos hb))
    exact ⟨s, rfl, hidle, hdone hidle⟩
  | cons a as ih =>
    by_cases hs : s.seq = .idle
    case pos => exact ⟨s, drive_idle hs _, hs, hdone hs⟩
    have hinv' := hinv.frame s.devAddr [answerInput s a] s.trace s.draws
    obtain ⟨t, hstep⟩ := sequencerNeverStuck _ hinv'
    obtain ⟨-, hfewer, hended⟩ := progress_step (s := { s with inputs := [answerInput s a] }) hs rfl hstep
    have hshort : answersLeft s ≤ as.length + 1 := hlen
    rw [drive_cons hs hstep]
    exact ih (stepKeepsControl _ _ hinv' hstep) hended (Nat.le_of_lt_succ (hfewer.trans_le hshort))

/-- Settles O54: 42 answers are as many as any operation needs. -/
theorem operationsEnd : Obligations.OperationsEnd := fun _ _ hinv hb hlen =>
  drive_ends hinv (fun hidle => absurd hidle hb) (hlen ▸ answersLeft_le hinv)

end Sys2Proof.Safety
end

section
/-! PROOFS. What the answer of the final read decides (O49), and what the grammar of R184 says of counts and time (O51, O52). -/

namespace Sys2Proof.Safety

open Sys2Proof.Machine

/-! ### The outcome of a MEASURE -/

/-- Two results of the same answer differ in nothing but the probe diagnostics. -/
theorem measureResult_agree {t1 t2 : State} {ok : Bool} {d : RData} {hit1 hit2 : Bool} {n1 n2 : Nat}
    (h1 : MeasureResult t1 ok d hit1 n1) (h2 : MeasureResult t2 ok d hit2 n2) :
    t1.status.ok = t2.status.ok ∧ t1.status.measValid = t2.status.measValid ∧
      t1.status.errKind = t2.status.errKind ∧ SameResults t2 t1 := by
  rw [h1.status, h2.status]
  refine ⟨rfl, rfl, rfl, ?_⟩
  cases hp : ok && framePasses (replyOf d) with
  | true =>
    obtain ⟨hT1, hH1, htemp1, hrh1⟩ := h1.pass hp
    obtain ⟨hT2, hH2, htemp2, hrh2⟩ := h2.pass hp
    have hT := hT1.trans hT2.symm
    have hH := hH1.trans hH2.symm
    exact ⟨hT, hH, by rw [htemp1, htemp2, hT], by rw [hrh1, hrh2, hH]⟩
  | false =>
    obtain ⟨hT1, hH1, htemp1, hrh1⟩ := h1.fail hp
    obtain ⟨hT2, hH2, htemp2, hrh2⟩ := h2.fail hp
    exact ⟨hT1.trans hT2.symm, hH1.trans hH2.symm, htemp1.trans htemp2.symm, hrh1.trans hrh2.symm⟩

/-- The step that takes the answer of the final read ends the operation with the result of R183. -/
theorem measureResult_step {s t : State} {ok : Bool} {d : RData} {rest : List Input} (hinv : ControlInv s)
    (hs : s.seq = .read6) (hi : s.inputs = .tpDone ok d :: rest) (hstep : step s = .next t) :
    MeasureResult t ok d s.status.probeHit s.probeCnt.toNat := by
  obtain rfl := Host.Outcome.next.inj ((step_answerRead6 hs hi).symm.trans hstep)
  exact measureResult_answerRead6 (hinv.frame s.devAddr rest s.trace s.draws) hs rfl rfl ok d

/-- Settles O49. -/
theorem resultDependsOnReplyAlone : Obligations.ResultDependsOnReplyAlone :=
  fun _ _ _ _ _ _ _ _ hinv1 hinv2 hs1 hs2 hi1 hi2 hstep1 hstep2 =>
    measureResult_agree (measureResult_step hinv1 hs1 hi1 hstep1) (measureResult_step hinv2 hs2 hi2 hstep2)

/-! ### Counts of transactions -/

@[simp] theorem delaysIn_append (t t' : List Transaction) : delaysIn (t ++ t') = delaysIn t + delaysIn t' := by
  induction t with
  | nil => simp [delaysIn]
  | cons x t ih => cases x <;> simp [delaysIn, ih, Nat.add_right_comm]

@[simp] theorem writesIn_append (t t' : List Transaction) : writesIn (t ++ t') = writesIn t + writesIn t' := by
  induction t with
  | nil => simp [writesIn]
  | cons x t ih => cases x <;> simp [writesIn, ih, Nat.add_right_comm]

@[simp] theorem finalReadsIn_append (t t' : List Transaction) :
    finalReadsIn (t ++ t') = finalReadsIn t + finalReadsIn t' := by
  induction t with
  | nil => simp [finalReadsIn]
  | cons x t ih => cases x <;> simp [finalReadsIn, ih, Nat.add_right_comm]

section Rounds

variable (a : Byte) (n : Nat)

@[simp] theorem probesIn_probeRounds : probesIn (probeRounds a n) = n := by
  induction n with
  | zero => rfl
  | succ n ih => simp [probeRounds, probesIn, ih]

@[simp] theorem delaysIn_probeRounds : delaysIn (probeRounds a n) = n := by
  induction n with
  | zero => rfl
  | succ n ih => simp [probeRounds, delaysIn, ih]

@[simp] theorem writesIn_probeRounds : writesIn (probeRounds a n) = 0 := by
  induction n with
  | zero => rfl
  | succ n ih => simp [probeRounds, writesIn, ih]

@[simp] theorem finalReadsIn_probeRounds : finalReadsIn (probeRounds a n) = 0 := by
  induction n with
  | zero => rfl
  | succ n ih => simp [probeRounds, finalReadsIn, ih]

end Rounds

/-- Every transaction is counted once. -/
theorem length_eq_counts (t : List Transaction) :
    t.length = writesIn t + probesIn t + delaysIn t + finalReadsIn t := by
  induction t with
  | nil => rfl
  | cons x t ih => cases x <;> simp only [List.length_cons, writesIn, probesIn, delaysIn, finalReadsIn, ih] <;> omega

/-- The counts of a trace: how many writes, probes, delays and final reads. -/
def HasCounts (t : List Transaction) (writes probes delays reads : Nat) : Prop :=
  writesIn t = writes ∧ probesIn t = probes ∧ delaysIn t = delays ∧ finalReadsIn t = reads

/-- The forms of R184, by their counts. -/
theorem finishedTrace_counts {l : Latch} {t : List Transaction} (h : FinishedTrace l t) :
    HasCounts t 1 0 0 0 ∨ HasCounts t 1 0 0 1 ∨
    (l.op = 1#3 ∧ l.timing = .polled ∧
      ((∃ k < 20, HasCounts t 1 (k + 1) k 1) ∨ HasCounts t 1 20 20 1)) := by
  obtain ⟨a, c, -, rfl | ⟨-, rfl⟩ | ⟨-, b, rfl⟩ | ⟨-, -, b, rfl⟩ | ⟨hop, htm, k, b, hk, rfl⟩ | ⟨hop, htm, b, rfl⟩⟩ := h
  · exact .inl ⟨rfl, rfl, rfl, rfl⟩
  · exact .inl ⟨rfl, rfl, rfl, rfl⟩
  · exact .inr (.inl ⟨rfl, rfl, rfl, rfl⟩)
  · exact .inr (.inl ⟨rfl, rfl, rfl, rfl⟩)
  · exact .inr (.inr ⟨hop, htm, .inl ⟨k, hk, by simp [HasCounts, writesIn, probesIn, delaysIn, finalReadsIn]⟩⟩)
  · exact .inr (.inr ⟨hop, htm, .inr ⟨rfl, rfl, rfl, rfl⟩⟩)

/-- Settles O51. -/
theorem transactionCounts : Obligations.TransactionCounts := by
  intro l t hfin
  rw [length_eq_counts t]
  rcases finishedTrace_counts hfin with
    ⟨hw, hp, hd, hr⟩ | ⟨hw, hp, hd, hr⟩ | ⟨hop, htm, ⟨k, hk, hw, hp, hd, hr⟩ | ⟨hw, hp, hd, hr⟩⟩ <;>
    rw [hw, hp, hd, hr]
  · simp
  · simp
  · simp [hop, htm]
    omega
  · simp [hop, htm]

/-! ### Time -/

/-- Settles O52: without a hit the trace before the final read is the command write and twenty rounds. -/
theorem exhaustionTakesTwentyDelays : Obligations.ExhaustionTakesTwentyDelays := by
  intro s hinv htrace hs htm hmiss
  obtain ⟨-, hmax⟩ := hinv.probe.afterProbes hs htm
  have h20 : s.probeCnt.toNat = 20 := congrArg BitVec.toNat (hmax hmiss)
  have hdelays : delaysIn s.trace = 20 := by
    rw [htrace.running (by simp [hs])]
    simp [runningTrace, hs, htm, hmiss, h20, delaysIn]
  exact ⟨hdelays, by rw [leastTime, hdelays]⟩

end Sys2Proof.Safety
end

section
/-! PROOFS. Whole MEASURE operations (O55, O57, O58): one lemma per phase, composed along the run. -/

namespace Sys2Proof.Machine

open Sys2Proof.Safety

/-- Settles O55: the request, the write's answer and the read's answer. -/
theorem stretchedMeasureWhole : Obligations.StretchedMeasureWhole := by
  intro s data c dw d okRead rest hs hreq hi
  obtain ⟨u, hrequest, hissued, hui⟩ := step_stretched_request hs hreq hi
  obtain ⟨v, hwrite, hwritten, hvi⟩ := hissued.step_written hui
  obtain ⟨t, hread, hend⟩ := hwritten.step_read hvi
  refine ⟨t, ?_, hend⟩
  rw [run_of_step hrequest, run_of_step hwrite, run_of_step hread]
  rfl

/-! ### Runs -/

/-- `n` steps take the machine from `s` to `t`. -/
def RunsTo (n : Nat) (s t : State) : Prop := ∀ m, Sys2Proof.core.run (n + m) s = Sys2Proof.core.run m t

theorem RunsTo.refl (s : State) : RunsTo 0 s s := fun m => by rw [Nat.zero_add]

theorem RunsTo.of_step {s t : State} (h : step s = .next t) : RunsTo 1 s t := fun m => by
  rw [Nat.add_comm, run_of_step h]

theorem RunsTo.trans {n n' : Nat} {s t u : State} (h : RunsTo n s t) (h' : RunsTo n' t u) : RunsTo (n + n') s u :=
  fun m => by rw [Nat.add_assoc, h, h']

theorem RunsTo.run {n : Nat} {s t : State} (h : RunsTo n s t) : Sys2Proof.core.run n s = .next t := h 0

/-! ### The phases of a Polled MEASURE -/

/-- A Polled MEASURE at the address `a` with the command `c`, `k` of whose probes have failed, each followed by its delay; the next
probe is outstanding. -/
structure Probing (u : State) (a : Byte) (c : Command) (k : Nat) : Prop where
  inv : ControlInv u
  seq : u.seq = .probe
  count : u.probeCnt.toNat = k + 1
  addr : u.devAddr = a
  trace : u.trace = .write a c.b0 c.b1 true :: probeRounds a k

/-- A MEASURE with its final read outstanding; `hit` and `n` are the probe diagnostics, `tr` is the trace so far. -/
structure Reading (v : State) (a : Byte) (tr : List Transaction) (hit : Bool) (n : Nat) : Prop where
  inv : ControlInv v
  seq : v.seq = .read6
  hit : v.status.probeHit = hit
  count : v.probeCnt.toNat = n
  addr : v.devAddr = a
  trace : v.trace = tr

/-- `w` is the request word of a Polled MEASURE and `c` its command: two rows of R93. -/
def IsPolledRequest (w : Byte) (c : Command) : Prop :=
  w = 0x09#8 ∧ c = ⟨0x78#8, 0x66#8⟩ ∨ w = 0x19#8 ∧ c = ⟨0x60#8, 0x9C#8⟩

theorem IsPolledRequest.spec {w : Byte} {c : Command} (h : IsPolledRequest w c) :
    validRequest w = true ∧ selectCommand (latchOf w) = some c ∧ (latchOf w).op = 1#3 ∧
      (latchOf w).timing = .polled := by
  rcases h with ⟨rfl, rfl⟩ | ⟨rfl, rfl⟩ <;> exact ⟨rfl, rfl, rfl, rfl⟩

/-- The request, and the answer of a successful write, leave the first probe outstanding (R163, R164, R166). -/
theorem runsTo_firstProbe {s : State} {data : Word32} {c : Command} {dw : RData} {rest : List Input}
    (hs : s.seq = .idle) (hreq : IsPolledRequest (requestWord data) c)
    (hi : s.inputs = .hostWrite 0#3 data :: .tpDone true dw :: rest) :
    ∃ u, RunsTo 2 s u ∧ Probing u s.devAddr c 0 ∧ u.inputs = rest := by
  obtain ⟨hv, hsel, hop, htm⟩ := hreq.spec
  obtain ⟨c', hsel', heq⟩ := acceptRequest_spec hv { s with inputs := .tpDone true dw :: rest }
  obtain rfl : c' = c := Option.some.inj (hsel'.symm.trans hsel)
  have hrequest := (step_request hs hi).trans (congrArg _ heq)
  have hinv := controlInv_accepted (s := { s with inputs := .tpDone true dw :: rest }) hv hsel
  have hwrite := (step_answerWrite rfl rfl).trans (answerWrite_polled (u :=
    { issueWrite { latchRequest (requestWord data) { s with inputs := .tpDone true dw :: rest } with cmd := c' } with
      inputs := rest }) hop htm)
  exact ⟨_, (RunsTo.of_step hrequest).trans (.of_step hwrite),
    ⟨stepKeepsControl _ _ hinv hwrite, rfl, rfl, rfl, rfl⟩, rfl⟩

section Polling

variable {u : State} {a : Byte} {c : Command} {k : Nat} {d : RData} {rest : List Input}

/-- A failed probe and its delay, before the twentieth: the next probe (R168, R169). -/
theorem Probing.runsTo_nextProbe (h : Probing u a c k) (hk : k + 1 < 20)
    (hi : u.inputs = .tpDone false d :: .dlDone :: rest) :
    ∃ v, RunsTo 2 u v ∧ Probing v a c (k + 1) ∧ v.inputs = rest := by
  obtain ⟨hinv, hs, hcount, rfl, htrace⟩ := h
  have hlt : u.probeCnt.toNat < 20 := hcount ▸ hk
  have hmiss := step_probeMissed hs hi
  have hdelay := step_nextProbe (s :=
    { u with seq := .delay, inputs := .dlDone :: rest, trace := u.trace ++ [.read1 u.devAddr false] }) rfl rfl hlt
  refine ⟨_, (RunsTo.of_step hmiss).trans (.of_step hdelay),
    ⟨stepKeepsControl _ _ (stepKeepsControl _ _ hinv hmiss) hdelay, rfl, ?_, rfl, ?_⟩, rfl⟩
  · rw [probeCnt_toNat_succ hlt, hcount]
  · simp [htrace, probeRounds_succ, Config.probeDelay]

/-- The twentieth probe failed too: after its delay the final read is made all the same (R170). -/
theorem Probing.runsTo_exhausted (h : Probing u a c 19) (hi : u.inputs = .tpDone false d :: .dlDone :: rest) :
    ∃ v, RunsTo 2 u v ∧ Reading v a (.write a c.b0 c.b1 true :: probeRounds a 20) false 20 ∧ v.inputs = rest := by
  obtain ⟨hinv, hs, hcount, rfl, htrace⟩ := h
  have hge : ¬ u.probeCnt.toNat < 20 := by simp [hcount]
  have hmiss := step_probeMissed hs hi
  have hdelay := step_probesExhausted (s :=
    { u with seq := .delay, inputs := .dlDone :: rest, trace := u.trace ++ [.read1 u.devAddr false] }) rfl rfl hge
  obtain ⟨-, hnohit⟩ := hinv.probe.duringProbes (.inl hs)
  refine ⟨_, (RunsTo.of_step hmiss).trans (.of_step hdelay),
    ⟨stepKeepsControl _ _ (stepKeepsControl _ _ hinv hmiss) hdelay, rfl, hnohit, hcount, rfl, ?_⟩, rfl⟩
  simp [htrace, probeRounds_succ u.devAddr 19, Config.probeDelay]

/-- A probe succeeded: the final read, with no delay (R167). -/
theorem Probing.runsTo_hit (h : Probing u a c k) (hi : u.inputs = .tpDone true d :: rest) :
    ∃ v, RunsTo 1 u v ∧
      Reading v a (.write a c.b0 c.b1 true :: (probeRounds a k ++ [.read1 a true])) true (k + 1) ∧
      v.inputs = rest := by
  obtain ⟨hinv, hs, hcount, rfl, htrace⟩ := h
  have hhit := step_probeHit hs hi
  exact ⟨_, .of_step hhit, ⟨stepKeepsControl _ _ hinv hhit, rfl, rfl, hcount, rfl, by simp [htrace]⟩, rfl⟩

/-- Failed probes, as long as they are not the twentieth, by induction on their answers. -/
theorem Probing.runsTo_failedProbes {probes : List RData} (h : Probing u a c k) (hk : k + probes.length < 20)
    (hi : u.inputs = failedProbes probes ++ rest) :
    ∃ v, RunsTo (2 * probes.length) u v ∧ Probing v a c (k + probes.length) ∧ v.inputs = rest := by
  induction probes generalizing u k with
  | nil => exact ⟨u, .refl u, h, hi⟩
  | cons p probes ih =>
    have hlen : k + 1 + probes.length = k + (p :: probes).length := by simp only [List.length_cons]; omega
    obtain ⟨v, hround, hv, hvi⟩ := h.runsTo_nextProbe (by omega) hi
    obtain ⟨w, hrest, hw, hwi⟩ := ih hv (hlen ▸ hk) hvi
    have hsteps : 2 + 2 * probes.length = 2 * (p :: probes).length := by simp only [List.length_cons]; omega
    exact ⟨w, hsteps ▸ hround.trans hrest, hlen ▸ hw, hwi⟩

end Polling

/-- The answer of the final read ends the operation with the result of R183. -/
theorem Reading.runsTo_end {v : State} {a : Byte} {tr : List Transaction} {hit ok : Bool} {n : Nat} {d : RData}
    {rest : List Input} (h : Reading v a tr hit n) (hi : v.inputs = .tpDone ok d :: rest) :
    ∃ t, RunsTo 1 v t ∧ MeasureResult t ok d hit n ∧ t.inputs = rest ∧ t.devAddr = a ∧
      t.trace = tr ++ [finalRead6 a ok d] := by
  obtain ⟨hinv, hs, rfl, rfl, rfl, rfl⟩ := h
  have hstep := step_answerRead6 hs hi
  obtain ⟨hinputs, haddr, htrace⟩ := answerRead6_frame ok d { v with inputs := rest }
  exact ⟨_, .of_step hstep, measureResult_step hinv hs hi hstep, hinputs, haddr, htrace⟩

/-! ### Whole Polled operations -/

/-- Settles O57. -/
theorem polledMeasureWhole : Obligations.PolledMeasureWhole := by
  intro s data c probes dw dp d okRead rest hs hlen hreq hi
  obtain ⟨u, hfirst, hu, hui⟩ := runsTo_firstProbe hs hreq hi
  obtain ⟨v, hfailed, hv, hvi⟩ := hu.runsTo_failedProbes (by omega) hui
  rw [Nat.zero_add] at hv
  obtain ⟨w, hhit, hw, hwi⟩ := hv.runsTo_hit hvi
  obtain ⟨t, hread, hresult, hti, haddr, htrace⟩ := hw.runsTo_end hwi
  have hsteps : 2 + 2 * probes.length + 1 + 1 = 2 * probes.length + 4 := by omega
  have hrun := ((hfirst.trans hfailed).trans hhit).trans hread
  exact ⟨t, (hsteps ▸ hrun).run, hresult, hti, haddr, by rw [htrace]; simp⟩

/-- Settles O58: nineteen rounds lead to the twentieth probe, and its own round to the final read. -/
theorem exhaustedMeasureWhole : Obligations.ExhaustedMeasureWhole := by
  intro s data c probes dw d okRead rest hs hlen hreq hi
  obtain rfl | ⟨init, last, rfl⟩ := List.eq_nil_or_concat' probes
  · cases hlen
  have hinit : init.length = 19 := by simpa using hlen
  have hsplit : failedProbes (init ++ [last]) ++ .tpDone okRead d :: rest =
      failedProbes init ++ (.tpDone false last :: .dlDone :: .tpDone okRead d :: rest) := by
    simp [failedProbes]
  rw [hsplit] at hi
  obtain ⟨u, hfirst, hu, hui⟩ := runsTo_firstProbe hs hreq hi
  obtain ⟨v, hfailed, hv, hvi⟩ := hu.runsTo_failedProbes (by omega) hui
  rw [hinit] at hv hfailed
  obtain ⟨w, hexhausted, hw, hwi⟩ := hv.runsTo_exhausted hvi
  obtain ⟨t, hread, hresult, hti, haddr, htrace⟩ := hw.runsTo_end hwi
  have hrun : RunsTo 43 s t := ((hfirst.trans hfailed).trans hexhausted).trans hread
  exact ⟨t, hrun.run, hresult, hti, haddr, htrace⟩

end Sys2Proof.Machine
end

section
/-! PROOFS. The unit converter: what the three fields of a stored pattern hold, what the pattern denotes, and that neither conversion
loses the raw value (R200 to R202, R204). -/

namespace Sys2Proof.Machine

open Sys2Proof.Safety

/-! ### The fields of a pattern, as R202 assembles it -/

theorem getLsbD_fractionMask (i : Nat) : (0x7FFFFF#32).getLsbD i = decide (i < 23) := by
  have hmask : 0x7FFFFF#32 = (BitVec.allOnes 23).setWidth 32 := rfl
  rw [hmask, BitVec.getLsbD_setWidth, BitVec.getLsbD_allOnes]
  simp only [Bool.and_eq_right_iff_imp, decide_eq_true_eq]
  omega

section Fields

variable (s e f : Word32)

theorem assembled_sign :
    (s <<< 31 ||| e <<< 23 ||| (f &&& 0x7FFFFF#32)).getLsbD 31 = (s.getLsbD 0 || e.getLsbD 8) := by
  simp [-BitVec.getLsbD_eq_getElem, getLsbD_fractionMask]

theorem assembled_exponent :
    (s <<< 31 ||| e <<< 23 ||| (f &&& 0x7FFFFF#32)).extractLsb' 23 8 = e.setWidth 8 := by
  ext i hi
  have hsign : 23 + i < 31 := by omega
  have hword : 23 + i < 32 := by omega
  simp [-BitVec.getLsbD_eq_getElem, getLsbD_fractionMask, hsign, hword]

theorem assembled_fraction :
    (s <<< 31 ||| e <<< 23 ||| (f &&& 0x7FFFFF#32)).extractLsb' 0 23 = f.setWidth 23 := by
  ext i hi
  have hsign : i < 31 := by omega
  simp [-BitVec.getLsbD_eq_getElem, getLsbD_fractionMask, hi, hsign]

end Fields

/-! ### The fields of `f32 n` -/

section NonZero

variable {n : Int}

theorem f32_of_ne_zero (hn : n ≠ 0) :
    f32 n = signBit n <<< 31 ||| BitVec.ofNat 32 (n.natAbs.log2 + 111) <<< 23 |||
      (BitVec.ofNat 32 n.natAbs <<< (23 - n.natAbs.log2) &&& 0x7FFFFF#32) :=
  if_neg hn

theorem getLsbD_signBit (n : Int) : (signBit n).getLsbD 0 = decide (n < 0) := by
  unfold signBit
  split <;> simp [*]

theorem log2_natAbs_lt (hn : n ≠ 0) (h : n.natAbs < 2 ^ 24) : n.natAbs.log2 < 24 :=
  (Nat.log2_lt (Int.natAbs_ne_zero.mpr hn)).mpr h

theorem f32_exponent (hn : n ≠ 0) (h : n.natAbs < 2 ^ 24) :
    ((f32 n).extractLsb' 23 8).toNat = n.natAbs.log2 + 111 := by
  have hlog := log2_natAbs_lt hn h
  rw [f32_of_ne_zero hn, assembled_exponent, BitVec.toNat_setWidth, BitVec.toNat_ofNat]
  omega

theorem f32_sign (hn : n ≠ 0) (h : n.natAbs < 2 ^ 24) : (f32 n).getLsbD 31 = decide (n < 0) := by
  have hlog := log2_natAbs_lt hn h
  have hexp : (BitVec.ofNat 32 (n.natAbs.log2 + 111)).getLsbD 8 = false := by
    rw [BitVec.getLsbD_ofNat, Nat.testBit_lt_two_pow (by omega), Bool.and_false]
  rw [f32_of_ne_zero hn, assembled_sign, getLsbD_signBit, hexp, Bool.or_false]

/-- Shifted left until its top bit stands at position 23, a numerator is the significand of R202: the hidden bit and the fraction. -/
theorem f32_significand (hn : n ≠ 0) (h : n.natAbs < 2 ^ 24) :
    2 ^ 23 + ((f32 n).extractLsb' 0 23).toNat = n.natAbs * 2 ^ (23 - n.natAbs.log2) := by
  have hm := Int.natAbs_ne_zero.mpr hn
  have hlog := log2_natAbs_lt hn h
  have hlow : 2 ^ 23 ≤ n.natAbs * 2 ^ (23 - n.natAbs.log2) := by
    calc 2 ^ 23 = 2 ^ n.natAbs.log2 * 2 ^ (23 - n.natAbs.log2) := by rw [← Nat.pow_add]; congr 1; omega
      _ ≤ _ := Nat.mul_le_mul_right _ (Nat.log2_self_le hm)
  have hhigh : n.natAbs * 2 ^ (23 - n.natAbs.log2) < 2 ^ 24 := by
    calc _ < 2 ^ (n.natAbs.log2 + 1) * 2 ^ (23 - n.natAbs.log2) :=
          Nat.mul_lt_mul_of_pos_right Nat.lt_log2_self (Nat.two_pow_pos _)
      _ = 2 ^ 24 := by rw [← Nat.pow_add]; congr 1; omega
  rw [f32_of_ne_zero hn, assembled_fraction, BitVec.toNat_setWidth, BitVec.toNat_shiftLeft, BitVec.toNat_ofNat,
    Nat.mod_eq_of_lt (by omega : n.natAbs < 2 ^ 32), Nat.shiftLeft_eq]
  omega

end NonZero

/-! ### What a pattern denotes -/

theorem f32Scaled_of_normal {p : Word32} (h0 : (p.extractLsb' 23 8).toNat ≠ 0) (h255 : (p.extractLsb' 23 8).toNat ≠ 255) :
    f32Scaled p =
      let m : Int :=
        ((2 ^ 23 + (p.extractLsb' 0 23).toNat) * 2 ^ ((p.extractLsb' 23 8).toNat - 1) : Nat)
      some (if p.getLsbD 31 then -m else m) := by
  unfold f32Scaled
  rw [if_neg (fun h => h0 h.1), if_neg (not_or.mpr ⟨h0, h255⟩)]

/-- R202: the pattern of a numerator below 2^24 is exact. -/
theorem f32Scaled_f32 {n : Int} (h : n.natAbs < 2 ^ 24) : f32Scaled (f32 n) = some (n * 2 ^ 133) := by
  by_cases hn : n = 0
  · subst hn
    rfl
  have hlog := log2_natAbs_lt hn h
  have hexp := f32_exponent hn h
  have hmag : n.natAbs * 2 ^ (23 - n.natAbs.log2) * 2 ^ (n.natAbs.log2 + 111 - 1) = n.natAbs * 2 ^ 133 := by
    rw [Nat.mul_assoc, ← Nat.pow_add]
    congr 2
    omega
  rw [f32Scaled_of_normal (by omega) (by omega), f32_significand hn h, hexp, f32_sign hn h, hmag]
  by_cases hneg : n < 0
  · have habs : (n.natAbs : Int) = -n := Int.ofNat_natAbs_of_nonpos hneg.le
    simp [hneg, habs]
  · have habs : (n.natAbs : Int) = n := Int.natAbs_of_nonneg (not_lt.mp hneg)
    simp [hneg, habs]

/-- An exact pattern determines its numerator. -/
theorem f32_inj {m n : Int} (hm : m.natAbs < 2 ^ 24) (hn : n.natAbs < 2 ^ 24) (h : f32 m = f32 n) : m = n := by
  have hvalue : some (m * 2 ^ 133) = some (n * 2 ^ 133) := by rw [← f32Scaled_f32 hm, h, f32Scaled_f32 hn]
  exact Int.eq_of_mul_eq_mul_right (by decide) (Option.some.inj hvalue)

/-! ### The two conversions -/

theorem convT_natAbs_lt (raw : Raw16) : (convT raw).natAbs < 2 ^ 24 := by
  unfold convT
  omega

theorem convRH_natAbs_lt (raw : Raw16) : (convRH raw).natAbs < 2 ^ 24 := by
  unfold convRH
  omega

theorem convT_lt {x y : Raw16} (h : x < y) : convT x < convT y := by
  have hnat := BitVec.lt_def.mp h
  unfold convT
  omega

theorem convRH_lt {x y : Raw16} (h : x < y) : convRH x < convRH y := by
  have hnat := BitVec.lt_def.mp h
  unfold convRH
  omega

theorem convT_inj {x y : Raw16} (h : convT x = convT y) : x = y := by
  unfold convT at h
  exact BitVec.eq_of_toNat_eq (by omega)

theorem convRH_inj {x y : Raw16} (h : convRH x = convRH y) : x = y := by
  unfold convRH at h
  exact BitVec.eq_of_toNat_eq (by omega)

/-- Settles O41: both numerators are below 2^24 in magnitude, where `f32` is exact. -/
theorem floatPatternExact : Obligations.FloatPatternExact :=
  ⟨fun _ => f32Scaled_f32, fun raw => ⟨f32Scaled_f32 (convT_natAbs_lt raw), f32Scaled_f32 (convRH_natAbs_lt raw)⟩⟩

/-- Settles O42: both conversions are injective, and so is `f32` on the numerators they give. -/
theorem conversionInjective : Obligations.ConversionInjective :=
  ⟨fun _ _ h => ⟨convT_lt h, convRH_lt h⟩,
    fun x y h => convT_inj (f32_inj (convT_natAbs_lt x) (convT_natAbs_lt y) h),
    fun x y h => convRH_inj (f32_inj (convRH_natAbs_lt x) (convRH_natAbs_lt y) h)⟩

end Sys2Proof.Machine
end

section
/-! PROOFS. Whole peripheral operations (O59, O60): the acceptance of a request word, and what each answer makes of it. -/

namespace Sys2Proof.Machine

/-! ### The accepted request -/

/-- An idle block takes a request word and issues the command write of its operation (R161, R163, row T2 of R175). -/
theorem runsTo_accepted {s : State} {data : Word32} {c : Command} {rest : List Input} (hs : s.seq = .idle)
    (hv : validRequest (requestWord data) = true) (hc : selectCommand (latchOf (requestWord data)) = some c)
    (hi : s.inputs = .hostWrite 0#3 data :: rest) :
    RunsTo 1 s { s with
      seq := .write, opl := latchOf (requestWord data), cmd := c, probeCnt := 0#5
      status := ⟨true, false, false, false, false, .none⟩
      tRaw := 0#16, rhRaw := 0#16, temp := 0#32, rh := 0#32, inputs := rest, trace := [] } := by
  have hload := loadCommand_of_some (s := latchRequest (requestWord data) { s with inputs := rest }) hc
  have hstep := step_request hs hi
  rw [acceptRequest_valid hv, hload] at hstep
  exact .of_step hstep

/-! ### IS_PRESENT -/

/-- The request and the answer of a successful write leave the 3-byte read outstanding (R164, row T5 of R175). -/
theorem runsTo_presenceRead {s : State} {data : Word32} {dw : RData} {rest : List Input} (hs : s.seq = .idle)
    (hw : requestWord data = 0x02#8) (hi : s.inputs = .hostWrite 0#3 data :: .tpDone true dw :: rest) :
    RunsTo 2 s { s with
      seq := .read3, opl := latchOf 0x02#8, cmd := ⟨0xEF#8, 0xC8#8⟩, probeCnt := 0#5
      status := ⟨true, false, false, false, false, .none⟩
      tRaw := 0#16, rhRaw := 0#16, temp := 0#32, rh := 0#32, inputs := rest
      trace := [.write s.devAddr 0xEF#8 0xC8#8 true] } := by
  have haccept := runsTo_accepted (c := ⟨0xEF#8, 0xC8#8⟩) hs (by rw [hw]; rfl) (by rw [hw]; rfl) hi
  rw [hw] at haccept
  exact haccept.trans (.of_step ((step_answerWrite rfl rfl).trans (answerWrite_presence rfl)))

/-- What the answer of the 3-byte read makes of `STATUS` (rows T15 to T17 of R175). -/
theorem answerRead3_status (ok : Bool) (d : RData) (s : State) :
    (answerRead3 ok d s).status =
      if ok then
        if crc8 [rdataByte d 0, rdataByte d 1] = rdataByte d 2 then statusPassed s.status
        else statusFailed .crcMismatch s.status
      else statusFailed .readFailed s.status := by
  cases ok with
  | false => rfl
  | true =>
    rw [answerRead3_success, if_pos rfl]
    split <;> rfl

/-- The answer of the 3-byte read ends the operation, extends the trace by the read, and keeps the counter and the results. -/
theorem answerRead3_frame (ok : Bool) (d : RData) (s : State) :
    (answerRead3 ok d s).seq = .idle ∧ (answerRead3 ok d s).inputs = s.inputs ∧
    (answerRead3 ok d s).probeCnt = s.probeCnt ∧ (answerRead3 ok d s).tRaw = s.tRaw ∧
    (answerRead3 ok d s).rhRaw = s.rhRaw ∧ (answerRead3 ok d s).temp = s.temp ∧ (answerRead3 ok d s).rh = s.rh ∧
    (answerRead3 ok d s).trace = s.trace ++
      [.read3 s.devAddr (if ok then some (rdataByte d 0, rdataByte d 1, rdataByte d 2) else none)] := by
  cases ok with
  | false => exact ⟨rfl, rfl, rfl, rfl, rfl, rfl, rfl, rfl⟩
  | true =>
    rw [answerRead3_success]
    dsimp only
    split <;> exact ⟨rfl, rfl, rfl, rfl, rfl, rfl, rfl, rfl⟩

/-- The flags after the 3-byte read: the operation passes exactly when the read succeeds and the checksum matches (R210). -/
theorem answerRead3_flags (ok : Bool) (d : RData) (s : State) :
    ((answerRead3 ok d s).status.ok = true ↔
      ok = true ∧ crc8 [rdataByte d 0, rdataByte d 1] = rdataByte d 2) ∧
    (answerRead3 ok d s).status.done = true ∧ (answerRead3 ok d s).status.busy = false ∧
    (s.status.measValid = false → (answerRead3 ok d s).status.measValid = false) ∧
    (answerRead3 ok d s).status.probeHit = s.status.probeHit ∧
    (answerRead3 ok d s).status.errKind = (if ok then
      (if crc8 [rdataByte d 0, rdataByte d 1] = rdataByte d 2 then .none else .crcMismatch) else .readFailed) := by
  rw [answerRead3_status]
  cases ok with
  | false => simp
  | true => by_cases hcrc : crc8 [rdataByte d 0, rdataByte d 1] = rdataByte d 2 <;> simp [hcrc]

/-- Settles O59: the read's answer decides the flags; all else is the frame of that answer. -/
theorem presenceCheckWhole : Obligations.PresenceCheckWhole := by
  intro s data dw d okRead rest hs hw hi
  have hrun := (runsTo_presenceRead hs hw hi).trans (.of_step (step_answerRead3 rfl rfl))
  obtain ⟨hseq, hinputs, hkept⟩ := answerRead3_frame okRead d _
  obtain ⟨hok, hdone, hbusy, hvalid, hhit, herr⟩ := answerRead3_flags okRead d _
  exact ⟨_, hrun.run, hseq, hinputs, hok, hdone, hbusy, hvalid rfl, hhit, herr, hkept⟩

/-! ### SLEEP and WAKE -/

/-- `w` is the request word of SLEEP or WAKE and `c` its command: two rows of R93. -/
def IsPowerRequest (w : Byte) (c : Command) : Prop :=
  w = 0x03#8 ∧ c = ⟨0xB0#8, 0x98#8⟩ ∨ w = 0x04#8 ∧ c = ⟨0x35#8, 0x17#8⟩

theorem IsPowerRequest.spec {w : Byte} {c : Command} (h : IsPowerRequest w c) :
    validRequest w = true ∧ selectCommand (latchOf w) = some c ∧ ((latchOf w).op = 3#3 ∨ (latchOf w).op = 4#3) := by
  rcases h with ⟨rfl, rfl⟩ | ⟨rfl, rfl⟩
  · exact ⟨rfl, rfl, .inl rfl⟩
  · exact ⟨rfl, rfl, .inr rfl⟩

/-- Settles O60: the write's answer is the operation's, by row T4 of R175 or by row T3. -/
theorem sleepWakeWhole : Obligations.SleepWakeWhole := by
  intro s data c d okWrite rest hs hreq hi
  obtain ⟨hv, hc, hop⟩ := IsPowerRequest.spec (w := requestWord data) hreq
  have haccept := runsTo_accepted hs hv hc hi
  cases okWrite with
  | true =>
    have hrun := haccept.trans (.of_step ((step_answerWrite rfl rfl).trans (answerWrite_power hop)))
    exact ⟨_, hrun.run, rfl, rfl, rfl, rfl, rfl, rfl, rfl, rfl, rfl, rfl, rfl, rfl⟩
  | false =>
    have hrun := haccept.trans (.of_step ((step_answerWrite rfl rfl).trans (answerWrite_failed _)))
    exact ⟨_, hrun.run, rfl, rfl, rfl, rfl, rfl, rfl, rfl, rfl, rfl, rfl, rfl, rfl⟩

end Sys2Proof.Machine
end

section
/-! PROOFS. A request while busy (O7): row T18 of R175, by the host's write and by each instruction. -/

namespace Sys2Proof.Machine

/-- A host write of `REQ` while busy only goes past its input (R255). -/
theorem step_request_busy {s : State} {data : Word32} {rest : List Input} (hs : s.seq ≠ .idle)
    (hi : s.inputs = .hostWrite 0#3 data :: rest) : step s = .next { s with inputs := rest } :=
  (step_of_cons hi).trans (congrArg _ (hostRequest_busy (s := { s with inputs := rest }) hs _))

/-- A host operation of a busy block is dropped (R160, R255). -/
theorem exec_request_busy {s : State} {w : Byte} {i : Instr} (hs : s.seq ≠ .idle) (hd : decodeReq w = .instr i) :
    exec i s = .next s := by
  rw [exec_of_decodeReq hd, hostRequest_busy hs]

/-- Settles O7: a busy block drops every request word, and the instructions named are the seven rows of R93. -/
theorem busyRequestIsDropped : Obligations.BusyRequestIsDropped := fun _ hs =>
  ⟨fun _ _ hi => step_request_busy hs hi,
    exec_request_busy hs (w := 0x01#8) rfl, exec_request_busy hs (w := 0x09#8) rfl,
    exec_request_busy hs (w := 0x11#8) rfl, exec_request_busy hs (w := 0x19#8) rfl,
    exec_request_busy hs (w := 0x02#8) rfl, exec_request_busy hs (w := 0x03#8) rfl,
    exec_request_busy hs (w := 0x04#8) rfl⟩

end Sys2Proof.Machine
end
